-- ==== Sys2Proof/Word.lean ====
section
/-! DEFINITION. The widths of FSK-CORE as types: registers, bytes, samples, FIFO pointers, channel and lane
indices (spec/00_scope.md R5, R8; spec/10_state.md). -/

namespace Sys2Proof

/-- A register or a command word: 32 bits (10 section 2). -/
abbrev Word := BitVec 32

/-- One byte of a transmit bank, of a message or of the assembly buffer. -/
abbrev Byte := BitVec 8

/-- A signed 16-bit sample in two's complement (R13). -/
abbrev Sample := BitVec 16

/-- A FIFO pointer: it counts modulo 128 (R80). -/
abbrev Ptr := BitVec 7

/-- A signed 48-bit correlation accumulator (R67). -/
abbrev Acc := BitVec 48

/-- A channel index, 0..NUM_CHANNELS−1 (R5, R453). -/
abbrev Chan := Fin 4

/-- An entry of the phase bank, of the frequency table or of the correlator bank, 0..TABLE_SIZE−1 (R5). -/
abbrev Lane := Fin 16

/-- The channels in ascending order, the order of R225, R350 and R355. -/
abbrev allChans : List Chan := [0, 1, 2, 3]

end Sys2Proof
end

