-- ==== Sys2Proof/Machine/Arith.lean ====
section
/-! DEFINITION. The arithmetic primitives of the spec's notation (spec/00_scope.md R8 to R13) and the byte order of the
windows (spec/20_memory.md R108). -/

namespace Sys2Proof.Machine

/-- `round_half_up(a / b)` (R11). -/
def roundHalfUp (a b : Nat) : Nat := (2 * a + b) / (2 * b)

/-- `ceil(a / b)` for b > 0. -/
def ceilDiv (a b : Nat) : Nat := (a + b - 1) / b

/-- `sat16(v)` (R12). -/
def sat16 (v : Int) : Int := min (max v (-32768)) 32767

/-- The 16-bit sample that stands for an integer (R13). -/
def toSample (v : Int) : Sample := BitVec.ofInt 16 v

/-- Byte `t` of a window word, t in 0..3: bits 8t+7 .. 8t (R108). -/
def byteOf (v : Word) (t : Nat) : Byte := v.extractLsb' (8 * t) 8

/-- The window word `(b3, b2, b1, b0)` with b0 in the low bits (R108). -/
def wordOf (b3 b2 b1 b0 : Byte) : Word := b3 ++ b2 ++ b1 ++ b0

end Sys2Proof.Machine
end

