-- ==== Sys2Proof/Config.lean ====
section
/-! DEFINITION. The implementation parameters of FSK-CORE (spec/00_scope.md R5), the steps its agents can take
(spec/00_scope.md R6), and the values the spec leaves open (spec/92_eei_decisions.md, spec/93_implementation_defined.md)
as constants without a body. -/

namespace Sys2Proof

/-! The parameters of R5, by their names there. -/

abbrev numChannels : Nat := 4
abbrev maxOrder : Nat := 4
abbrev lutBits : Nat := 10
abbrev chunkSymbols : Nat := 4
abbrev rxqDepth : Nat := 10
abbrev rxqEntryBytes : Nat := 32
abbrev txbBytes : Nat := 256
abbrev fifoDepth : Nat := 64
abbrev fifoLog2Depth : Nat := 6
abbrev pMax : Nat := 65535
abbrev frameLenMax : Nat := 4096

/-- The two sample FIFOs (R80). -/
inductive FifoId where
  | txf
  | rxf
deriving DecidableEq, Repr, Inhabited

/-- The two clock domains (44, R471). -/
inductive Domain where
  | core
  | audio
deriving DecidableEq, Repr, Inhabited

/-- One access of the bus master. `off` is the platform address minus CORE_BASE, in bytes: CORE_BASE is OPEN (R5, D32),
so an access is given relative to it, and a negative `off` or one above 0xFFF lies outside the block's window (R104). -/
inductive HostOp where
  /-- `BusRead(a)` (R102). -/
  | read (off : Int)
  /-- `BusWrite(a, v)` (R103). -/
  | write (off : Int) (v : Word)
  /-- An access of 8 or 16 bits, to which the spec gives no meaning (R107, U16). -/
  | narrow (off : Int) (bits : Nat)
deriving DecidableEq, Repr, Inhabited

/-- One step of one agent (R6), or a change of the reset pin (R470). Where the spec lets a step take a draw, the step
carries it. -/
inductive Event where
  /-- HOST: one bus access (R102, R103). -/
  | host (op : HostOp)
  /-- CORE: the TX sample step (R350). -/
  | tx
  /-- CORE: the RX sample step (R356). -/
  | rx
  /-- DAC: one output strobe (R390). -/
  | dac
  /-- ADC: one input strobe with the sample the environment delivers, any value (R391, U4). -/
  | adc (x : Sample)
  /-- SYNC_W(F) with the view value `v` it delivers (R392, U3). -/
  | syncW (f : FifoId) (v : Ptr)
  /-- SYNC_R(F) with the view value `v` it delivers (R392, U3). -/
  | syncR (f : FifoId) (v : Ptr)
  /-- SYNC_EN_DAC (R393). -/
  | syncEnDac
  /-- SYNC_EN_ADC (R393). -/
  | syncEnAdc
  /-- SYNC_UND (R394). -/
  | syncUnd
  /-- SYNC_OVF (R394). -/
  | syncOvf
  /-- rst is asserted in both domains (R470, R471). -/
  | rstAssert
  /-- rst is released in both domains (R470, R471). -/
  | rstRelease
  /-- rst is asserted in one domain only: not a state of this spec (R471, U18). -/
  | rstOneDomain (d : Domain)
deriving DecidableEq, Repr, Inhabited

/-- SCHEDULE (OPEN, D42, U5): the step that the environment and the schedule supply next, once State's own list of
pending steps is empty. Free: log entry 1. -/
opaque Config.schedule : Nat → Event

/-- The unspecified value of a TXB byte nothing has written since the `epoch`-th reset (R60, U1): one draw for each
byte, fixed until it is written. Arguments: epoch, channel, bank·256 + byte index. Free: log entry 6. -/
opaque Config.txbDraw : Nat → Nat → Nat → Byte

/-- The unspecified value of a FIFO memory entry nothing has written since the `epoch`-th reset (R80, U2). Arguments:
epoch, FIFO, entry index. Free: log entry 8. -/
opaque Config.fifoDraw : Nat → FifoId → Nat → Sample

/-- ID reads this value (R30): ASCII "FSK" in bytes 3..1 and version 1 in byte 0. -/
def Config.idValue : Word := 0x46534B01

end Sys2Proof
end

