-- ==== Sys2Proof/Machine/State.lean ====
section
/-! DEFINITION. The state of FSK-CORE as plain data (spec/10_state.md), the reasons a step can stop, and the state
after reset (spec/70_reset_and_hazards.md R470). -/

namespace Sys2Proof.Machine

/-- FSK-CORE has no exceptions, traps or faults (R420): nothing raises one, so the type has no constructor. Safe. -/
inductive Fault
deriving DecidableEq, Repr

/-- Why the model refuses a step. -/
inductive Refusal where
  /-- Raised by exec's arm of a command that has no meaning yet; no arm raises it now. Safe. -/
  | notModelled (mnemonic : String)
  /-- Raised by a host access outside CORE_BASE .. CORE_BASE + 0xFFF: whether it reaches the block is OPEN, and a
  model that does not know the platform refuses it (R104, U17). Safe. -/
  | outsideWindow (off : Int)
  /-- Raised by a host access narrower than 32 bits, to which the spec gives no meaning (R107, U16). Safe. -/
  | narrowAccess (bits : Nat)
  /-- Raised by a reset of one clock domain only, which is not a state of the spec (R471, U18). Safe. -/
  | partialReset (d : Domain)
deriving DecidableEq, Repr

/-- A byte memory: the bytes that have been written, by address, in rising order (one canonical form). An unlisted
address has not been written since reset and holds an unspecified value (R60). -/
abbrev Memory := List Host.Cell

/-- A sample FIFO (R80, R380). Each side sees the other side's pointer through a view. -/
structure Fifo where
  /-- MEM: the entries written since reset, by index 0..63, in rising order. -/
  mem : List (Nat × Sample)
  /-- W, the write pointer. -/
  w : Ptr
  /-- R, the read pointer. -/
  r : Ptr
  /-- R_W, the writer's view of R. -/
  viewR : Ptr
  /-- W_R, the reader's view of W. -/
  viewW : Ptr
deriving DecidableEq, Repr

/-- The receive state of a channel that rx_clear clears (R66, R67, R68, R69). -/
structure RxState where
  acc : Vector Acc 16
  ref : Vector Word 16
  winN : BitVec 16
  chunkCnt : BitVec 20
  framePos : BitVec 16
  asm : Vector Byte 32
  nbits : BitVec 9
deriving DecidableEq, Repr

/-- One channel: its host registers (R41 to R48), its engine (R50 to R54, R71), its transmit state (R60 to R62) and
its receive state (R66 to R72). -/
structure Channel where
  baseFreq : Word
  freqSpacing : Word
  symbolRate : Word
  order : BitVec 3
  frameLen : BitVec 16
  txLen : BitVec 9
  phaseSel : BitVec 4
  joined : Bool
  orderAct : BitVec 3
  pAct : BitVec 16
  frameAct : BitVec 16
  ftw : Vector Word 16
  nyqWarn : Bool
  phase : Vector Word 16
  /-- TXB: byte k of bank b has address b·256 + k (R60). -/
  txb : Memory
  /-- STG: the staging bank's index, false for 0 and true for 1 (R60). -/
  stg : Bool
  actLen : BitVec 9
  txBusy : Bool
  txSym : BitVec 12
  txSamp : BitVec 16
  rx : RxState
  /-- RXQ: the inbound messages, head first (R72). -/
  rxq : List (List Byte)
  rxqDrops : BitVec 16
deriving DecidableEq, Repr

/-- The whole machine. The fields from `epoch` on are the model's own (log entries 1, 9, 10). -/
structure State where
  /-- CTRL.EN (R33). -/
  en : Bool
  /-- CTRL.LOOPBACK (R33). -/
  loopback : Bool
  sampleRate : Word
  cmdResult : Word
  irqStatus : Word
  irqEnable : Word
  sampleCnt : Word
  rxSampleCnt : Word
  chans : Vector Channel 4
  txf : Fifo
  rxf : Fifo
  /-- EN_A (R81). -/
  enA : Bool
  /-- RXEN_A (R81). -/
  rxenA : Bool
  /-- UND_PEND (R81). -/
  undPend : Bool
  /-- OVF_PEND (R81). -/
  ovfPend : Bool
  /-- The reset pin rst (R470): true while it is asserted. -/
  rst : Bool
  /-- Model's own: how many resets have been asserted, so that unspecified memory is drawn afresh (R472). -/
  epoch : Nat
  /-- Model's own: how many steps the free schedule has supplied. -/
  tick : Nat
  /-- Model's own: the steps already fixed from outside, the next one first (log entry 1). -/
  pending : List Event
  /-- Model's own: the TX sample stream (R100(2), R82), what the DAC steps have emitted, latest first. -/
  dacStream : List Sample
  /-- Model's own: what the host's reads have returned, latest first (R102). -/
  readStream : List Word
deriving DecidableEq, Repr

/-- A FIFO after reset (R80, R396): all pointers and views 0, no entry written. -/
def Fifo.reset : Fifo := { mem := [], w := 0, r := 0, viewR := 0, viewW := 0 }

/-- The cleared receive state (R69), which is also its reset value (R66 to R68). -/
def RxState.clear : RxState :=
  { acc := Vector.replicate 16 0, ref := Vector.replicate 16 0, winN := 0, chunkCnt := 0, framePos := 0,
    asm := Vector.replicate 32 0, nbits := 0 }

/-- A channel after reset (R41 to R72, R470): every register 0, not joined, no byte of TXB written. -/
def Channel.reset : Channel :=
  { baseFreq := 0, freqSpacing := 0, symbolRate := 0, order := 0, frameLen := 0, txLen := 0, phaseSel := 0,
    joined := false, orderAct := 0, pAct := 0, frameAct := 0, ftw := Vector.replicate 16 0, nyqWarn := false,
    phase := Vector.replicate 16 0, txb := [], stg := false, actLen := 0, txBusy := false, txSym := 0, txSamp := 0,
    rx := RxState.clear, rxq := [], rxqDrops := 0 }

/-- The machine right after reset: rst just released, every register at the value R470 states. -/
def State.reset : State :=
  { en := false, loopback := false, sampleRate := 0, cmdResult := 0, irqStatus := 0, irqEnable := 0, sampleCnt := 0,
    rxSampleCnt := 0, chans := Vector.replicate 4 Channel.reset, txf := Fifo.reset, rxf := Fifo.reset, enA := false,
    rxenA := false, undPend := false, ovfPend := false, rst := false, epoch := 0, tick := 0, pending := [],
    dacStream := [], readStream := [] }

/-- What an instruction answers. -/
abbrev Result := Host.Outcome State Fault Refusal

end Sys2Proof.Machine
end

