-- ==== Sys2Proof/Machine/Ops.lean ====
section
/-! DEFINITION. The named operations over memories, FIFOs and the parts of the state that the commands, the sample
steps and the bus share. FSK-CORE takes no exception and returns from none (spec/60_exceptions.md R420, R433, R434): what
stands in their place, the completion of a command, is `complete` in Flags.lean. -/

namespace Sys2Proof.Machine

/-! ### Stores: lists of (address, value) in rising order of address -/

/-- The value last written at `k`, if any. -/
def storeRead {α : Type} : List (Nat × α) → Nat → Option α
  | [], _ => none
  | (a, v) :: rest, k => if a = k then some v else storeRead rest k

/-- Write `v` at `k`, keeping the addresses rising. -/
def storeWrite {α : Type} (k : Nat) (v : α) : List (Nat × α) → List (Nat × α)
  | [] => [(k, v)]
  | (a, x) :: rest =>
    if k < a then (k, v) :: (a, x) :: rest
    else if k = a then (k, v) :: rest
    else (a, x) :: storeWrite k v rest

/-- The addresses are strictly rising and all at least `lo`. -/
def storeRising {α : Type} (lo : Nat) : List (Nat × α) → Bool
  | [] => true
  | (a, _) :: rest => decide (lo ≤ a) && storeRising (a + 1) rest

/-- The canonical form: strictly rising addresses, all below `n`. An unlisted address is an unwritten one, so no entry
can equal what an unlisted address reads as (log entry 6). -/
def storeWf {α : Type} (n : Nat) (m : List (Nat × α)) : Bool :=
  storeRising 0 m && m.all (fun e => decide (e.1 < n))

/-! ### The transmit banks (R60) -/

/-- The address of byte `k` of bank `b` within a channel's TXB. -/
def txbKey (bank : Bool) (k : Byte) : Nat := (if bank then 256 else 0) + k.toNat

/-- The canonical form of a TXB memory: two banks of 256 bytes. -/
def Memory.wf (m : Memory) : Bool := storeWf 512 m

/-- `TxbRead(c, bank, k)` (R10) for channel number `c`: the byte written, or its unspecified value (U1). -/
def txbRead (epoch : Nat) (c : Nat) (m : Memory) (bank : Bool) (k : Byte) : Byte :=
  (storeRead m (txbKey bank k)).getD (Config.txbDraw epoch c (txbKey bank k))

/-- `TxbWrite(c, bank, k, v)` (R10). -/
def txbWrite (m : Memory) (bank : Bool) (k : Byte) (v : Byte) : Memory := storeWrite (txbKey bank k) v m

/-! ### FIFOs (44) -/

/-- The true occupancy `(W − R) mod 128` (R380). -/
def Fifo.occupancy (f : Fifo) : Nat := (f.w - f.r).toNat

/-- The occupancy the writer sees, `(W − R_W) mod 128` (R383, R384). -/
def Fifo.writerLevel (f : Fifo) : Nat := (f.w - f.viewR).toNat

/-- The occupancy the reader sees, `(W_R − R) mod 128` (R383, R384). -/
def Fifo.readerLevel (f : Fifo) : Nat := (f.viewW - f.r).toNat

/-- `full_W(F)` (R384). -/
def Fifo.fullW (f : Fifo) : Bool := f.writerLevel == 64

/-- `empty_R(F)` (R384). -/
def Fifo.emptyR (f : Fifo) : Bool := f.readerLevel == 0

/-- The memory index of a pointer, `ptr mod 64` (R80). -/
def fifoIndex (p : Ptr) : Nat := p.toNat % 64

/-- The entry a pointer points at: the sample written there, or its unspecified value (U2). -/
def Fifo.entry (epoch : Nat) (id : FifoId) (f : Fifo) (p : Ptr) : Sample :=
  (storeRead f.mem (fifoIndex p)).getD (Config.fifoDraw epoch id (fifoIndex p))

/-- `FifoPush(F, v)` (R385). -/
def Fifo.push (f : Fifo) (v : Sample) : Fifo := { f with mem := storeWrite (fifoIndex f.w) v f.mem, w := f.w + 1 }

/-- The read pointer's move of `FifoPop(F)` (R386); the value returned is `Fifo.entry … f f.r`. -/
def Fifo.advance (f : Fifo) : Fifo := { f with r := f.r + 1 }

/-- RXF_DISCARD's move: R takes the value of the reader's view of W (R235). -/
def Fifo.discard (f : Fifo) : Fifo := { f with r := f.viewW }

/-- SYNC_W(F) with the drawn view value `v` (R392). A `v` outside the admitted range delivers the current view, which
is itself an admitted value (log entry 4). -/
def Fifo.syncW (f : Fifo) (v : Ptr) : Fifo :=
  if (v - f.viewW).toNat ≤ (f.w - f.viewW).toNat then { f with viewW := v } else f

/-- SYNC_R(F) with the drawn view value `v` (R392, log entry 4). -/
def Fifo.syncR (f : Fifo) (v : Ptr) : Fifo :=
  if (v - f.viewR).toNat ≤ (f.r - f.viewR).toNat then { f with viewR := v } else f

/-! ### Channels -/

/-- Channel `c`. -/
def State.chan (s : State) (c : Chan) : Channel := s.chans[c.val]

/-- Replace channel `c`. -/
def State.setChan (s : State) (c : Chan) (ch : Channel) : State := { s with chans := s.chans.set c.val ch }

/-- Replace every channel at once. -/
def State.setChans (s : State) (f : Chan → Channel) : State := { s with chans := Vector.ofFn f }

/-- Set the sticky flags `bits` (R431). -/
def State.raise (s : State) (bits : Word) : State := { s with irqStatus := s.irqStatus ||| bits }

/-- Replace a FIFO. -/
def State.setFifo (s : State) : FifoId → Fifo → State
  | .txf, f => { s with txf := f }
  | .rxf, f => { s with rxf := f }

/-- A FIFO by name. -/
def State.fifo (s : State) : FifoId → Fifo
  | .txf => s.txf
  | .rxf => s.rxf

/-- `rx_clear(c)` (R69). -/
def Channel.rxClear (ch : Channel) : Channel := { ch with rx := RxState.clear }

/-- Byte `k` of bank `bank` of channel `c`: `TXB[c][bank][k]` (R60). -/
def State.txb (s : State) (c : Chan) (bank : Bool) (k : Byte) : Byte := txbRead s.epoch c.val (s.chan c).txb bank k

/-- The state that asserting rst leaves (R470 to R472): every register at its reset value, TXB and the FIFO memories
unspecified anew, and rst asserted. What has left the block (the streams) and what is still to come (the schedule) is not
the block's state and stays. -/
def State.assertReset (s : State) : State :=
  { State.reset with
    rst := true, epoch := s.epoch + 1, tick := s.tick, pending := s.pending, dacStream := s.dacStream,
    readStream := s.readStream }

end Sys2Proof.Machine
end

