-- ==== Sys2Proof/Machine/Flags.lean ====
section
/-! DEFINITION. Result codes, CMD_RESULT, IRQ_STATUS and the interrupt output (spec/60_exceptions.md; spec/10_state.md
R37 to R39; spec/40_commands.md R200). -/

namespace Sys2Proof.Machine

/-- The result codes (R421). -/
inductive ResultCode where
  | ok
  | badChannel
  | notJoined
  | alreadyJoined
  | cfgOrder
  | cfgSampleRate
  | cfgSymbolRate
  | cfgPeriod
  | cfgFrame
  | rxqEmpty
  | lenRange
  | illegal
deriving DecidableEq, Repr

/-- CMD_RESULT[7:0] (R421). -/
def ResultCode.toByte : ResultCode → Byte
  | .ok => 0x00
  | .badChannel => 0x01
  | .notJoined => 0x02
  | .alreadyJoined => 0x03
  | .cfgOrder => 0x04
  | .cfgSampleRate => 0x05
  | .cfgSymbolRate => 0x06
  | .cfgPeriod => 0x07
  | .cfgFrame => 0x08
  | .rxqEmpty => 0x09
  | .lenRange => 0x0A
  | .illegal => 0xFF

/-! The IRQ_STATUS bits (R430). -/

/-- One bit of a register. -/
def bit (n : Nat) : Word := BitVec.ofNat 32 (2 ^ n)

/-- TX_DONE[c]. -/
def txDoneBit (c : Chan) : Word := bit c.val

/-- RX_MSG[c]. -/
def rxMsgBit (c : Chan) : Word := bit (4 + c.val)

/-- RXQ_DROP[c]. -/
def rxqDropBit (c : Chan) : Word := bit (8 + c.val)

/-- TXF_UNDERRUN. -/
def underrunBit : Word := bit 16

/-- RXF_OVERFLOW. -/
def overflowBit : Word := bit 17

/-- CMD_ERR. -/
def cmdErrBit : Word := bit 18

/-- The defined bits of IRQ_STATUS and IRQ_ENABLE: 11..0, 16, 17 and 18 (R38, R39). -/
def irqMask : Word := 0x00070FFF

/-- The flags of one kind for the channels that `p` selects (R440: several in one step). -/
def chanBits (flag : Chan → Word) (p : Chan → Bool) : Word :=
  allChans.foldl (fun acc c => if p c then acc ||| flag c else acc) 0

/-- What a W1C write of `v` leaves of the status `st` (R38, R106). -/
def w1c (st v : Word) : Word := st &&& ~~~(v &&& irqMask)

/-- The interrupt output: the OR over all bits of IRQ_STATUS[b] ∧ IRQ_ENABLE[b] (R432). -/
def State.irq (s : State) : Bool := decide (s.irqStatus &&& s.irqEnable &&& irqMask ≠ 0)

/-- `(0, CH, OP, CODE)` (R37). -/
def resultWord (op : Byte) (ch : BitVec 4) (code : ResultCode) : Word := 0#12 ++ ch ++ op ++ code.toByte

/-- The completion of a command (R200): CMD_RESULT gets CH, OP and CODE, and a code other than OK sets CMD_ERR. It
stands where an ISA would take an exception (R10, R420). -/
def complete (op : Byte) (ch : BitVec 4) (code : ResultCode) (s : State) : State :=
  { s with
    cmdResult := resultWord op ch code,
    irqStatus := if code = .ok then s.irqStatus else s.irqStatus ||| cmdErrBit }

end Sys2Proof.Machine
end

