-- ==== Sys2Proof/Machine/Audio.lean ====
section
/-! DEFINITION. The audio domain and the domain crossing: the DAC, ADC and SYNC steps (spec/44_fifo_cdc.md R390 to R395). -/

namespace Sys2Proof.Machine

/-- The sample at the head of TXF (R386). -/
def State.txHead (s : State) : Sample := s.txf.entry s.epoch .txf s.txf.r

/-- The DAC step (R390): emit the head of TXF; on a FIFO it sees empty emit silence, and record an underrun while EN_A
is 1. -/
def State.dacStep (s : State) : State :=
  if s.txf.emptyR then { s with dacStream := 0 :: s.dacStream, undPend := s.undPend || s.enA }
  else { s with dacStream := s.txHead :: s.dacStream, txf := s.txf.advance }

/-- The ADC step with the environment's sample `x` (R391): discard it while capture is off, push it if RXF is not full as
the writer sees it, else drop it and record an overflow. -/
def State.adcStep (s : State) (x : Sample) : State :=
  if !s.rxenA then s
  else if !s.rxf.fullW then { s with rxf := s.rxf.push x }
  else { s with ovfPend := true }

/-- SYNC_W(F) (R392). -/
def State.syncWStep (s : State) (id : FifoId) (v : Ptr) : State := s.setFifo id ((s.fifo id).syncW v)

/-- SYNC_R(F) (R392). -/
def State.syncRStep (s : State) (id : FifoId) (v : Ptr) : State := s.setFifo id ((s.fifo id).syncR v)

/-- SYNC_EN_DAC (R393). -/
def State.syncEnDac (s : State) : State := { s with enA := s.en }

/-- SYNC_EN_ADC (R393). -/
def State.syncEnAdc (s : State) : State := { s with rxenA := s.en && !s.loopback }

/-- SYNC_UND (R394). -/
def State.syncUnd (s : State) : State :=
  if s.undPend then { s with undPend := false, irqStatus := s.irqStatus ||| underrunBit } else s

/-- SYNC_OVF (R394). -/
def State.syncOvf (s : State) : State :=
  if s.ovfPend then { s with ovfPend := false, irqStatus := s.irqStatus ||| overflowBit } else s

end Sys2Proof.Machine
end

