-- ==== Sys2Proof/Syntax.lean ====
section
/-! DEFINITION. The commands of FSK-CORE: one constructor for each row of spec/opcode_table.json
(spec/30_encoding.md R150, R151). -/

namespace Sys2Proof

/-- A command. `ch` is the CH operand, the only operand a command word carries (R154): an unsigned index.
Values 4..15 are legal encodings (R153). -/
inductive Instr where
  /-- NOP (R240). -/
  | nop
  /-- JOIN (R210). -/
  | join (ch : Nat)
  /-- LEAVE (R215). -/
  | leave (ch : Nat)
  /-- SEND (R220). -/
  | send (ch : Nat)
  /-- BROADCAST (R225). -/
  | broadcast
  /-- RX_RESET (R217). -/
  | rxReset (ch : Nat)
  /-- RXQ_POP (R230). -/
  | rxqPop (ch : Nat)
  /-- RXF_DISCARD (R235). -/
  | rxfDiscard
deriving DecidableEq, Repr

end Sys2Proof
end

