-- ==== Sys2Proof/WellFormed.lean ====
section
/-! DEFINITION. When a command can be encoded: its CH operand fits the four bits of the CH field
(spec/30_encoding.md R150, R154). -/

namespace Sys2Proof

/-- The CH field holds 0..15 (R150). -/
def chanFits (ch : Nat) : Bool := decide (ch < 16)

/-- A well-formed command: the CH operand of a channel command fits its field; a command without a channel has
nothing to check. -/
def Instr.wf : Instr → Bool
  | .nop => true
  | .join ch => chanFits ch
  | .leave ch => chanFits ch
  | .send ch => chanFits ch
  | .broadcast => true
  | .rxReset ch => chanFits ch
  | .rxqPop ch => chanFits ch
  | .rxfDiscard => true

end Sys2Proof
end

