-- ==== Sys2Proof/Decode.lean ====
section
/-! DEFINITION. Command words: the decoder, total on every word and rejecting by name, then the encoder
(spec/30_encoding.md R150 to R154, spec/opcode_table.json). -/

namespace Sys2Proof

/-- Why a command word is illegal (R152). -/
inductive DecodeError where
  /-- (a) OP ≥ 0x08. -/
  | illegalOp
  /-- (b) RSV ≠ 0. -/
  | reservedNotZero
  /-- (c) NOP, BROADCAST or RXF_DISCARD with CH ≠ 0. -/
  | channelNotAllowed
deriving DecidableEq, Repr

/-- OP = w[7:0] (R150). -/
def opField (w : Word) : Byte := w.extractLsb' 0 8

/-- CH = w[11:8] (R150). -/
def chField (w : Word) : BitVec 4 := w.extractLsb' 8 4

/-- RSV = w[31:12] (R150). -/
def rsvField (w : Word) : BitVec 20 := w.extractLsb' 12 20

/-- A command that takes no channel: CH must be 0 (R151, R152(c)). -/
def decodeNoChannel (ch : BitVec 4) (i : Instr) : Except DecodeError Instr :=
  if ch = 0 then .ok i else .error .channelNotAllowed

/-- The opcode map of R151, CH zero-extended (R154). -/
def decodeOp (op : Byte) (ch : BitVec 4) : Except DecodeError Instr :=
  match op.toNat with
  | 0x00 => decodeNoChannel ch .nop
  | 0x01 => .ok (.join ch.toNat)
  | 0x02 => .ok (.leave ch.toNat)
  | 0x03 => .ok (.send ch.toNat)
  | 0x04 => decodeNoChannel ch .broadcast
  | 0x05 => .ok (.rxReset ch.toNat)
  | 0x06 => .ok (.rxqPop ch.toNat)
  | 0x07 => decodeNoChannel ch .rxfDiscard
  | _ => .error .illegalOp

/-- Decode a command word. Every word that R152 calls illegal is rejected under the name of the clause it meets. -/
def decode (w : Word) : Except DecodeError Instr :=
  if 8 ≤ (opField w).toNat then .error .illegalOp
  else if rsvField w ≠ 0 then .error .reservedNotZero
  else decodeOp (opField w) (chField w)

/-- The OP field of a command (R151). -/
def Instr.op : Instr → Byte
  | .nop => 0x00
  | .join _ => 0x01
  | .leave _ => 0x02
  | .send _ => 0x03
  | .broadcast => 0x04
  | .rxReset _ => 0x05
  | .rxqPop _ => 0x06
  | .rxfDiscard => 0x07

/-- The value of the CH field of a command: its operand, or 0 where it takes none (R151). -/
def Instr.chan : Instr → Nat
  | .nop => 0
  | .join ch => ch
  | .leave ch => ch
  | .send ch => ch
  | .broadcast => 0
  | .rxReset ch => ch
  | .rxqPop ch => ch
  | .rxfDiscard => 0

/-- The command word `OP | (CH << 8)` with RSV = 0 (R150, R155). -/
def encode (i : Instr) : Word := 0#20 ++ BitVec.ofNat 4 i.chan ++ i.op

/-- What the decoder reads from the `nbits` low bits of `w`, numbered as spec/opcode_table.json numbers them (bit 0
is the least significant). A command word is exactly 32 bits (R150), so the bits above `nbits` are 0 and a longer
word is no command word. A command word is one 32-bit value, so no byte order applies to it (20 R108). -/
def decodeTableWord (nbits w : Nat) : Option Instr :=
  if nbits ≤ 32 then (decode (BitVec.ofNat 32 (w % 2 ^ nbits))).toOption else none

end Sys2Proof
end

