-- ==== Sys2Proof/Machine/Operands.lean ====
section
/-! DEFINITION. The operands of commands: the CH field (spec/30_encoding.md R153, R154; spec/40_commands.md R201) and the
configuration JOIN derives from the host registers (spec/40_commands.md R204 to R208). -/

namespace Sys2Proof.Machine

/-- The channel a CH operand names, if it is below NUM_CHANNELS (R201, R153). -/
def chanOperand (ch : Nat) : Option Chan := if h : ch < 4 then some ⟨ch, h⟩ else none

/-- A channel command (R200, R201): BAD_CHANNEL for CH ≥ NUM_CHANNELS, else the command's own checks and effects, which
answer a code and a state. -/
def channelCommand (op : Byte) (ch : Nat) (s : State) (body : Chan → State → ResultCode × State) : State :=
  match chanOperand ch with
  | none => complete op (BitVec.ofNat 4 ch) .badChannel s
  | some c => complete op (BitVec.ofNat 4 ch) (body c s).1 (body c s).2

/-- `P = round_half_up(SR / SymR)` (R206). -/
def symbolPeriod (sr symR : Nat) : Nat := roundHalfUp sr symR

/-- `f_i = BASE_FREQ + i·FREQ_SPACING` in unbounded integers (R205). -/
def toneFreq (ch : Channel) (i : Nat) : Nat := ch.baseFreq.toNat + i * ch.freqSpacing.toNat

/-- The tuning word of a frequency `f` (R205): `round_half_up(f·2^32 / SR) mod 2^32`. -/
def tuningWord (f sr : Nat) : Word := BitVec.ofNat 32 (roundHalfUp (f * 2 ^ 32) sr)

/-- `chunk_bytes_max(F, P, O)` (R207). -/
def chunkBytesMax (f p o : Nat) : Nat := ceilDiv ((4 + (f - 1) / p) * o) 8

/-- NYQ_WARN (R208). -/
def nyquistWarn (ch : Channel) (o sr : Nat) : Bool := decide (sr ≤ 2 * toneFreq ch (2 ^ o - 1))

/-- JOIN's checks in the order of R204; the first that fails gives the code. -/
def joinCheck (sr : Word) (ch : Channel) : ResultCode :=
  let o := ch.order.toNat
  let f := ch.frameLen.toNat
  let p := symbolPeriod sr.toNat ch.symbolRate.toNat
  if ch.joined then .alreadyJoined
  else if o < 1 ∨ 4 < o then .cfgOrder
  else if sr.toNat = 0 then .cfgSampleRate
  else if ch.symbolRate.toNat = 0 then .cfgSymbolRate
  else if p < 1 ∨ 65535 < p then .cfgPeriod
  else if f < 1 ∨ 4096 < f ∨ 32 < chunkBytesMax f p o then .cfgFrame
  else .ok

/-- The engine JOIN builds from the registers (R210). -/
def joinChannel (sr : Word) (ch : Channel) : Channel :=
  { ch with
    orderAct := ch.order,
    pAct := BitVec.ofNat 16 (symbolPeriod sr.toNat ch.symbolRate.toNat),
    frameAct := ch.frameLen,
    ftw := Vector.ofFn fun i : Lane => if i.val < 2 ^ ch.order.toNat then tuningWord (toneFreq ch i.val) sr.toNat else 0,
    phase := Vector.replicate 16 0,
    actLen := 0, txBusy := false, txSym := 0, txSamp := 0,
    rx := RxState.clear,
    rxq := [], rxqDrops := 0,
    nyqWarn := nyquistWarn ch ch.order.toNat sr.toNat,
    joined := true }

end Sys2Proof.Machine
end

