-- ==== Sys2Proof/Machine/Receive.lean ====
section
/-! DEFINITION. The meanings of RX_RESET, RXQ_POP and RXF_DISCARD (spec/40_commands.md R217, R230, R235). -/

namespace Sys2Proof.Machine

/-- RX_RESET on an existing channel (R217). -/
def rxResetCore (c : Chan) (s : State) : ResultCode × State :=
  if (s.chan c).joined then (.ok, s.setChan c (s.chan c).rxClear) else (.notJoined, s)

/-- RX_RESET (R217). -/
def execRxReset (ch : Nat) (s : State) : Result := .next (channelCommand 0x05 ch s rxResetCore)

/-- RXQ_POP on an existing channel (R230). -/
def rxqPopCore (c : Chan) (s : State) : ResultCode × State :=
  if !(s.chan c).joined then (.notJoined, s)
  else if (s.chan c).rxq.isEmpty then (.rxqEmpty, s)
  else (.ok, s.setChan c { s.chan c with rxq := (s.chan c).rxq.tail })

/-- RXQ_POP (R230). -/
def execRxqPop (ch : Nat) (s : State) : Result := .next (channelCommand 0x06 ch s rxqPopCore)

/-- RXF_DISCARD (R235): RXF.R moves to the reader's view of W. -/
def execRxfDiscard (s : State) : Result := .next (complete 0x07 0 .ok { s with rxf := s.rxf.discard })

end Sys2Proof.Machine
end

