-- ==== Sys2Proof/Machine/Registry.lean ====
section
/-! DEFINITION. The meanings of NOP, JOIN and LEAVE (spec/40_commands.md R210, R215, R240). -/

namespace Sys2Proof.Machine

/-- NOP (R240): CMD_RESULT becomes 0, which is CH 0, OP 0 and CODE OK. -/
def execNop (s : State) : Result := .next (complete 0x00 0 .ok s)

/-- JOIN on an existing channel (R204, R210). -/
def joinCore (c : Chan) (s : State) : ResultCode × State :=
  let code := joinCheck s.sampleRate (s.chan c)
  (code, if code = .ok then s.setChan c (joinChannel s.sampleRate (s.chan c)) else s)

/-- JOIN (R210). -/
def execJoin (ch : Nat) (s : State) : Result := .next (channelCommand 0x01 ch s joinCore)

/-- A channel whose session LEAVE closes (R215): PHASE, FTW, P_ACT, ORDER_ACT, RXQ_DROPS and STG are kept. -/
def leaveChannel (ch : Channel) : Channel :=
  { ch with
    joined := false, actLen := 0, txBusy := false, txSym := 0, txSamp := 0, rx := RxState.clear, rxq := [] }

/-- LEAVE on an existing channel (R215). -/
def leaveCore (c : Chan) (s : State) : ResultCode × State :=
  if (s.chan c).joined then (.ok, s.setChan c (leaveChannel (s.chan c))) else (.notJoined, s)

/-- LEAVE (R215). -/
def execLeave (ch : Nat) (s : State) : Result := .next (channelCommand 0x02 ch s leaveCore)

end Sys2Proof.Machine
end

