-- ==== Sys2Proof/Machine/Transport.lean ====
section
/-! DEFINITION. The meanings of SEND and BROADCAST (spec/40_commands.md R220, R225). -/

namespace Sys2Proof.Machine

/-- A channel whose staged message becomes the active one (R220): the banks swap, the cursor restarts, and the phase bank
is not touched. -/
def startMessage (ch : Channel) : Channel :=
  { ch with stg := !ch.stg, actLen := ch.txLen, txSym := 0, txSamp := 0, txBusy := decide (ch.txLen ≠ 0) }

/-- `send_core(c)` (R220). An empty message completes at once and sets TX_DONE[c]. -/
def sendCore (c : Chan) (s : State) : ResultCode × State :=
  let ch := s.chan c
  if 256 < ch.txLen.toNat then (.lenRange, s)
  else (.ok, (s.setChan c (startMessage ch)).raise (if ch.txLen = 0 then txDoneBit c else 0))

/-- SEND on an existing channel (R220). -/
def sendJoined (c : Chan) (s : State) : ResultCode × State :=
  if (s.chan c).joined then sendCore c s else (.notJoined, s)

/-- SEND (R220). -/
def execSend (ch : Nat) (s : State) : Result := .next (channelCommand 0x03 ch s sendJoined)

/-- One turn of BROADCAST's loop (R225): a joined channel sends; a failure is remembered and the loop goes on. -/
def broadcastTurn (r : ResultCode × State) (c : Chan) : ResultCode × State :=
  if (r.2.chan c).joined then
    (if (sendCore c r.2).1 = .ok then r.1 else (sendCore c r.2).1, (sendCore c r.2).2)
  else r

/-- BROADCAST's loop over the channels in ascending order (R225). -/
def broadcastAll (s : State) : ResultCode × State := allChans.foldl broadcastTurn (.ok, s)

/-- BROADCAST (R225). -/
def execBroadcast (s : State) : Result := .next (complete 0x04 0 (broadcastAll s).1 (broadcastAll s).2)

end Sys2Proof.Machine
end

