-- ==== Sys2Proof/Machine/Dispatch.lean ====
section
/-! DEFINITION. The meaning of each command, one arm per constructor of Instr. -/

namespace Sys2Proof.Machine

def exec (i : Instr) (s : State) : Host.Outcome State Fault Refusal :=
  match i with
  | .nop => Sys2Proof.Machine.execNop s
  | .join ch => Sys2Proof.Machine.execJoin ch s
  | .leave ch => Sys2Proof.Machine.execLeave ch s
  | .send ch => Sys2Proof.Machine.execSend ch s
  | .broadcast => Sys2Proof.Machine.execBroadcast s
  | .rxReset ch => Sys2Proof.Machine.execRxReset ch s
  | .rxqPop ch => Sys2Proof.Machine.execRxqPop ch s
  | .rxfDiscard => Sys2Proof.Machine.execRxfDiscard s

end Sys2Proof.Machine
end

