-- ==== Sys2Proof/Machine/Bus.lean ====
section
/-! DEFINITION. The register space: the address map, every register read and written, the two byte windows, and the
command register (spec/20_memory.md R100 to R121, spec/10_state.md sections 2 and 3, spec/40_commands.md R200). -/

namespace Sys2Proof.Machine

/-- The registers of a channel block, in the order of their offsets (10 section 3). -/
inductive ChanReg where
  | baseFreq
  | freqSpacing
  | symbolRate
  | order
  | frameLen
  | txLen
  | chStatus
  | symbolPeriod
  | rxqDrops
  | phaseSel
  | phaseRd
  | ftwRd
  | txPos
  | rxWin
  | rxChunk
  | rxFramePos
deriving DecidableEq, Repr

/-- What an offset names (R101). -/
inductive Reg where
  | id
  | params
  | ctrl
  | status
  | sampleRate
  | cmd
  | cmdResult
  | irqStatus
  | irqEnable
  | sampleCnt
  | rxSampleCnt
  /-- A register of channel `c`'s block at 0x100 + 0x40·c. -/
  | chan (c : Chan) (r : ChanReg)
  /-- Word `j` of channel `c`'s inbound-queue head window at 0x400 + 0x20·c (R121). -/
  | headWin (c : Chan) (j : Nat)
  /-- Word `j` of channel `c`'s staging window at 0x800 + 0x100·c (R120). -/
  | stageWin (c : Chan) (j : Nat)
  /-- Any other offset (R105). -/
  | reserved
deriving DecidableEq, Repr

/-- The global registers by word index (10 section 2). -/
def globalReg (word : Nat) : Reg :=
  match word with
  | 0 => .id
  | 1 => .params
  | 2 => .ctrl
  | 3 => .status
  | 4 => .sampleRate
  | 5 => .cmd
  | 6 => .cmdResult
  | 7 => .irqStatus
  | 8 => .irqEnable
  | 9 => .sampleCnt
  | 10 => .rxSampleCnt
  | _ => .reserved

/-- The channel registers by word index within the block (10 section 3). -/
def chanReg (word : Nat) : ChanReg :=
  match word with
  | 0 => .baseFreq
  | 1 => .freqSpacing
  | 2 => .symbolRate
  | 3 => .order
  | 4 => .frameLen
  | 5 => .txLen
  | 6 => .chStatus
  | 7 => .symbolPeriod
  | 8 => .rxqDrops
  | 9 => .phaseSel
  | 10 => .phaseRd
  | 11 => .ftwRd
  | 12 => .txPos
  | 13 => .rxWin
  | 14 => .rxChunk
  | _ => .rxFramePos

/-- The word at offset `a`: a[1:0] are ignored (R102, R103, R107) and the map is that of R101. -/
def regAt (a : BitVec 12) : Reg :=
  let word := a.toNat / 4
  if word < 0x40 then globalReg word
  else if word < 0x80 then .chan (Fin.ofNat 4 ((word - 0x40) / 16)) (chanReg ((word - 0x40) % 16))
  else if word < 0x100 then .reserved
  else if word < 0x120 then .headWin (Fin.ofNat 4 ((word - 0x100) / 8)) ((word - 0x100) % 8)
  else if word < 0x200 then .reserved
  else if word < 0x300 then .stageWin (Fin.ofNat 4 ((word - 0x200) / 64)) ((word - 0x200) % 64)
  else .reserved

/-- PARAMS (R32): the parameters of R5 in the fields of 10 section 2. -/
def paramsValue : Word :=
  BitVec.ofNat 8 rxqEntryBytes ++ BitVec.ofNat 4 fifoLog2Depth ++ BitVec.ofNat 4 fifoLog2Depth ++
    BitVec.ofNat 4 rxqDepth ++ BitVec.ofNat 4 lutBits ++ BitVec.ofNat 4 maxOrder ++ BitVec.ofNat 4 numChannels

/-- Four flags, channel 3 in the most significant bit. -/
def chanFlags (s : State) (p : Channel → Bool) : BitVec 4 :=
  BitVec.ofBool (p (s.chan 3)) ++ BitVec.ofBool (p (s.chan 2)) ++ BitVec.ofBool (p (s.chan 1)) ++
    BitVec.ofBool (p (s.chan 0))

/-- STATUS (R34). -/
def statusValue (s : State) : Word :=
  0#8 ++ chanFlags s (·.txBusy) ++ chanFlags s (·.joined) ++ 0#1 ++ (s.rxf.viewW - s.rxf.r) ++ 0#1 ++
    (s.txf.w - s.txf.viewR)

/-- CH_STATUS (R45). -/
def chStatusValue (ch : Channel) : Word :=
  0#18 ++ BitVec.ofNat 6 (ch.rxq.headD []).length ++ BitVec.ofNat 4 ch.rxq.length ++ BitVec.ofBool ch.stg ++
    BitVec.ofBool ch.nyqWarn ++ BitVec.ofBool ch.txBusy ++ BitVec.ofBool ch.joined

/-- A read of a channel register (R41 to R49). -/
def readChanReg (ch : Channel) : ChanReg → Word
  | .baseFreq => ch.baseFreq
  | .freqSpacing => ch.freqSpacing
  | .symbolRate => ch.symbolRate
  | .order => ch.order.setWidth 32
  | .frameLen => ch.frameLen.setWidth 32
  | .txLen => ch.txLen.setWidth 32
  | .chStatus => chStatusValue ch
  | .symbolPeriod => 0#13 ++ ch.orderAct ++ ch.pAct
  | .rxqDrops => ch.rxqDrops.setWidth 32
  | .phaseSel => ch.phaseSel.setWidth 32
  | .phaseRd => ch.phase[ch.phaseSel.toFin.val]
  | .ftwRd => ch.ftw[ch.phaseSel.toFin.val]
  | .txPos => ch.txSamp ++ 0#4 ++ ch.txSym
  | .rxWin => 0#7 ++ ch.rx.nbits ++ ch.rx.winN
  | .rxChunk => ch.rx.chunkCnt.setWidth 32
  | .rxFramePos => ch.rx.framePos.setWidth 32

/-- `byte(m, k)` of the head message: 0 past its end or when the queue is empty (R121). -/
def headByte (ch : Channel) (k : Nat) : Byte := (ch.rxq.headD []).getD k 0

/-- Word `j` of the head window (R121). -/
def headWord (ch : Channel) (j : Nat) : Word :=
  wordOf (headByte ch (4 * j + 3)) (headByte ch (4 * j + 2)) (headByte ch (4 * j + 1)) (headByte ch (4 * j))

/-- Byte `k` of the staging bank, `TXB[c][STG[c]][k]` (R120). -/
def stageByte (s : State) (c : Chan) (k : Nat) : Byte := s.txb c (s.chan c).stg (BitVec.ofNat 8 k)

/-- Word `j` of the staging window (R120). -/
def stageWord (s : State) (c : Chan) (j : Nat) : Word :=
  wordOf (stageByte s c (4 * j + 3)) (stageByte s c (4 * j + 2)) (stageByte s c (4 * j + 1)) (stageByte s c (4 * j))

/-- The value a read returns (R102, R106): a function of the state alone. -/
def readReg (s : State) : Reg → Word
  | .id => Config.idValue
  | .params => paramsValue
  | .ctrl => 0#30 ++ BitVec.ofBool s.loopback ++ BitVec.ofBool s.en
  | .status => statusValue s
  | .sampleRate => s.sampleRate
  | .cmd => 0
  | .cmdResult => s.cmdResult
  | .irqStatus => s.irqStatus &&& irqMask
  | .irqEnable => s.irqEnable &&& irqMask
  | .sampleCnt => s.sampleCnt
  | .rxSampleCnt => s.rxSampleCnt
  | .chan c r => readChanReg (s.chan c) r
  | .headWin c j => headWord (s.chan c) j
  | .stageWin c j => stageWord s c j
  | .reserved => 0

/-- A write of `v` to a channel register (R41 to R49, R106): the RW ones store their defined bits, the RO ones ignore
it. -/
def writeChanReg (ch : Channel) (v : Word) : ChanReg → Channel
  | .baseFreq => { ch with baseFreq := v }
  | .freqSpacing => { ch with freqSpacing := v }
  | .symbolRate => { ch with symbolRate := v }
  | .order => { ch with order := v.setWidth 3 }
  | .frameLen => { ch with frameLen := v.setWidth 16 }
  | .txLen => { ch with txLen := v.setWidth 9 }
  | .chStatus => ch
  | .symbolPeriod => ch
  | .rxqDrops => ch
  | .phaseSel => { ch with phaseSel := v.setWidth 4 }
  | .phaseRd => ch
  | .ftwRd => ch
  | .txPos => ch
  | .rxWin => ch
  | .rxChunk => ch
  | .rxFramePos => ch

/-- A write of word `j` of the staging window: four bytes of the staging bank (R120, R108). -/
def writeStage (ch : Channel) (j : Nat) (v : Word) : Channel :=
  { ch with
    txb := [0, 1, 2, 3].foldl (fun m t => txbWrite m ch.stg (BitVec.ofNat 8 (4 * j + t)) (byteOf v t)) ch.txb }

/-- An illegal command word (R152, R200): CMD_RESULT gets the raw CH and OP fields and ILLEGAL, CMD_ERR is set, and
nothing else changes. -/
def illegalCommand (w : Word) (s : State) : State := complete (opField w) (chField w) .illegal s

/-- A write of `w` to CMD (R36, R200): the whole command runs in this one step (R7). -/
def commandWrite (w : Word) (s : State) : Result :=
  match decode w with
  | .ok i => exec i s
  | .error _ => .next (illegalCommand w s)

/-- A write of `v` to what an offset names (R103, R105, R106). -/
def writeReg (s : State) (v : Word) : Reg → Result
  | .id => .next s
  | .params => .next s
  | .ctrl => .next { s with en := v.getLsbD 0, loopback := v.getLsbD 1 }
  | .status => .next s
  | .sampleRate => .next { s with sampleRate := v }
  | .cmd => commandWrite v s
  | .cmdResult => .next s
  | .irqStatus => .next { s with irqStatus := w1c s.irqStatus v }
  | .irqEnable => .next { s with irqEnable := v &&& irqMask }
  | .sampleCnt => .next s
  | .rxSampleCnt => .next s
  | .chan c r => .next (s.setChan c (writeChanReg (s.chan c) v r))
  | .headWin _ _ => .next s
  | .stageWin c j => .next (s.setChan c (writeStage (s.chan c) j v))
  | .reserved => .next s

/-- Whether an access lies in the 4 KiB window (R104). -/
def inWindow (off : Int) : Bool := decide (0 ≤ off ∧ off < 4096)

/-- The 12 offset bits the block decodes (R104). -/
def offsetBits (off : Int) : BitVec 12 := BitVec.ofInt 12 off

/-- One HOST step (R102, R103): a read answers its value and changes nothing of the block; a write acts on the word it
selects. An access outside the window or narrower than 32 bits is refused (R104, R107). -/
def hostStep (op : HostOp) (s : State) : Result :=
  match op with
  | .read off =>
    if inWindow off then .next { s with readStream := readReg s (regAt (offsetBits off)) :: s.readStream }
    else .refused (.outsideWindow off)
  | .write off v => if inWindow off then writeReg s v (regAt (offsetBits off)) else .refused (.outsideWindow off)
  | .narrow _ bits => .refused (.narrowAccess bits)

end Sys2Proof.Machine
end

