-- ==== Sys2Proof/Machine/Rx.lean ====
section
/-! DEFINITION. Correlation detection on one channel: the correlator bank, the symbol decision, the assembly of bytes,
frames, chunks and the flush (spec/42_correlator_rx.md R300 to R328). -/

namespace Sys2Proof.Machine

/-- Whether lane `i` is in use: i < K = 2^O (R300). -/
def laneUsed (ch : Channel) (i : Nat) : Bool := decide (i < 2 ^ ch.orderAct.toNat)

/-- One lane's accumulator after sample `x` (R300). The sum is exact while it fits 48 bits, which R70 says it always
does. -/
def accStep (x : Sample) (acc : Acc) (ref : Word) : Acc := BitVec.ofInt 48 (acc.toInt + x.toInt * amp ref)

/-- The accumulation of one sample over the lanes, and the two counters (R300). -/
def correlate (x : Sample) (ch : Channel) : Channel :=
  { ch with
    rx := { ch.rx with
      acc := Vector.ofFn fun i : Lane =>
        if laneUsed ch i.val then accStep x ch.rx.acc[i.val] ch.rx.ref[i.val] else ch.rx.acc[i.val],
      ref := Vector.ofFn fun i : Lane =>
        if laneUsed ch i.val then ch.rx.ref[i.val] + ch.ftw[i.val] else ch.rx.ref[i.val],
      winN := ch.rx.winN + 1,
      chunkCnt := ch.rx.chunkCnt + 1 } }

/-- `|ACC[c][i]|`; 0 for a lane the bank does not have. -/
def accMag (ch : Channel) (i : Nat) : Nat := if h : i < 16 then ch.rx.acc[i].toInt.natAbs else 0

/-- The comparison of R301: a later lane replaces the best one only if its magnitude is strictly larger. -/
def betterLane (ch : Channel) (best i : Nat) : Nat := if accMag ch best < accMag ch i then i else best

/-- The symbol R301 decides: lanes 1..K−1 in order against the best so far, from lane 0. At most 16 lanes exist (log
entry 15). -/
def decideSymbol (ch : Channel) : Nat :=
  (List.range (min 16 (2 ^ ch.orderAct.toNat))).foldl (betterLane ch) 0

/-- Bit `t` of an O-bit symbol counted from its most significant bit, `(s >> (O−1−t)) & 1` (R305). -/
def symbolBit (s o t : Nat) : Nat := s / 2 ^ (o - 1 - t) % 2

/-- OR bit `b` into bit `j` of the assembled stream (R68, R305): bit 7 − (j mod 8) of byte j div 8. A byte beyond the 32
of the buffer does not exist and nothing is written (log entry 15). -/
def setAsmBit (asm : Vector Byte 32) (j b : Nat) : Vector Byte 32 :=
  if h : j / 8 < 32 then asm.set (j / 8) (asm[j / 8] ||| BitVec.ofNat 8 (b * 2 ^ (7 - j % 8))) else asm

/-- `assemble(c, s)` (R305): the O bits of the symbol, most significant first. -/
def assemble (s : Nat) (ch : Channel) : Channel :=
  let o := ch.orderAct.toNat
  { ch with
    rx := { ch.rx with
      asm := (List.range o).foldl (fun a t => setAsmBit a (ch.rx.nbits.toNat + t) (symbolBit s o t)) ch.rx.asm,
      nbits := ch.rx.nbits + BitVec.ofNat 9 o } }

/-- The window restarts: accumulators, reference phases and WIN_N back to 0 (R301, R303). -/
def windowRestart (ch : Channel) : Channel :=
  { ch with rx := { ch.rx with acc := Vector.replicate 16 0, ref := Vector.replicate 16 0, winN := 0 } }

/-- `symbol_decide(c)` (R301). -/
def symbolDecide (ch : Channel) : Channel := windowRestart (assemble (decideSymbol ch) ch)

/-- The window check of R300. -/
def windowCheck (ch : Channel) : Channel := if ch.rx.winN = ch.pAct then symbolDecide ch else ch

/-- What one channel does with a received sample: its next state, and whether it queued or dropped a message. -/
structure RxSlot where
  chan : Channel
  msg : Bool
  drop : Bool
deriving DecidableEq, Repr

/-- The message of a flush: the first `ceil(NBITS / 8)` assembled bytes (R323). -/
def flushMessage (ch : Channel) : List Byte := ch.rx.asm.toList.take (ceilDiv ch.rx.nbits.toNat 8)

/-- `flush(c)` (R323): append the message, or drop the newest one when the queue is full; then rx_clear. -/
def flush (ch : Channel) : RxSlot :=
  if ch.rxq.length < 10 then
    { chan := { ch with rxq := ch.rxq ++ [flushMessage ch] }.rxClear, msg := true, drop := false }
  else
    { chan := { ch with rxqDrops := if ch.rxqDrops = 0xFFFF then 0xFFFF else ch.rxqDrops + 1 }.rxClear,
      msg := false, drop := true }

/-- `frame_advance(c)` (R320). -/
def frameAdvance (ch : Channel) : RxSlot :=
  if ch.rx.framePos + 1 = ch.frameAct then
    let ch0 : Channel := { ch with rx := { ch.rx with framePos := 0 } }
    if 4 * ch.pAct.toNat ≤ ch.rx.chunkCnt.toNat then flush ch0 else { chan := ch0, msg := false, drop := false }
  else { chan := { ch with rx := { ch.rx with framePos := ch.rx.framePos + 1 } }, msg := false, drop := false }

/-- The correlator step (R300): accumulate, then the window check, then the frame. -/
def correlatorStep (x : Sample) (ch : Channel) : RxSlot := frameAdvance (windowCheck (correlate x ch))

/-- A channel's part in `rx_feed(x)` (R355): a joined channel takes the correlator step, another one does nothing. -/
def rxPart (x : Sample) (ch : Channel) : RxSlot :=
  if ch.joined then correlatorStep x ch else { chan := ch, msg := false, drop := false }

end Sys2Proof.Machine
end

