-- ==== Sys2Proof/Machine/Tx.lean ====
section
/-! DEFINITION. Waveform synthesis on one channel: the symbol mapper, the NCO over the phase bank, and the play cursor
(spec/41_nco_tx.md R260 to R276). -/

namespace Sys2Proof.Machine

/-- `bit(j)` of a message of `len` bytes read through `rd` (R261): MSB first, 0 past the end. -/
def streamBit (rd : Nat → Byte) (len j : Nat) : Nat :=
  if j < 8 * len then (rd (j / 8)).toNat / 2 ^ (7 - j % 8) % 2 else 0

/-- `symbol(c, k)`: the k-th group of `o` bits, the first bit the most significant (R262). -/
def symbolAt (rd : Nat → Byte) (len o k : Nat) : Nat :=
  ((List.range o).map fun t => streamBit rd len (k * o + t) * 2 ^ (o - 1 - t)).sum

/-- `NSYM_TOTAL(c) = ceil(8·L / O)` (R263). -/
def nsymTotal (len o : Nat) : Nat := ceilDiv (8 * len) o

/-- The table entry of a symbol. A symbol of Order 1..4 is below 16; in states no run reaches (ORDER_ACT above 4) the
entry number is reduced modulo 16 (log entry 15). -/
def laneOf (sym : Nat) : Lane := Fin.ofNat 16 sym

/-- `cursor_advance(c)` (R271). -/
def cursorAdvance (ch : Channel) : Channel :=
  if ch.txSamp + 1 = ch.pAct then
    { ch with
      txSamp := 0, txSym := ch.txSym + 1,
      txBusy := if (ch.txSym + 1).toNat = nsymTotal ch.actLen.toNat ch.orderAct.toNat then false else ch.txBusy }
  else { ch with txSamp := ch.txSamp + 1 }

/-- Whether `cursor_advance(c)` completes the message and sets TX_DONE[c] (R271). -/
def cursorDone (ch : Channel) : Bool :=
  decide (ch.txSamp + 1 = ch.pAct ∧ (ch.txSym + 1).toNat = nsymTotal ch.actLen.toNat ch.orderAct.toNat)

/-- The symbol the NCO plays now, `symbol(c, TX_SYM[c])` (R270), with `rd` reading the active bank. -/
def currentSymbol (rd : Nat → Byte) (ch : Channel) : Nat :=
  symbolAt rd ch.actLen.toNat ch.orderAct.toNat ch.txSym.toNat

/-- What the NCO step does to the phase bank: only the active entry advances, modulo 2^32 (R270). -/
def phaseAdvance (i : Lane) (ch : Channel) : Channel :=
  { ch with phase := ch.phase.set i.val (ch.phase[i.val] + ch.ftw[i.val]) }

/-- What one channel contributes to a TX sample step: its sample, its next state, and whether its message completed. -/
structure TxSlot where
  sample : Int
  chan : Channel
  done : Bool
deriving DecidableEq, Repr

/-- The NCO step (R270): the sample is taken before the advance. -/
def ncoStep (rd : Nat → Byte) (ch : Channel) : TxSlot :=
  let i := laneOf (currentSymbol rd ch)
  { sample := amp ch.phase[i.val], chan := cursorAdvance (phaseAdvance i ch), done := cursorDone ch }

/-- A channel takes part in a TX sample step when it is joined and busy (R351). -/
def Channel.playing (ch : Channel) : Bool := ch.joined && ch.txBusy

/-- A channel's part in a TX sample step: the NCO step when it plays, else silence and no change (R351, R276). -/
def txPart (rd : Nat → Byte) (ch : Channel) : TxSlot :=
  if ch.playing then ncoStep rd ch else { sample := 0, chan := ch, done := false }

end Sys2Proof.Machine
end

