-- ==== Sys2Proof/Machine/Sample.lean ====
section
/-! DEFINITION. The sample-step engine and the mixer: the CORE agent's TX and RX sample steps
(spec/43_mixer_step.md R350 to R358). -/

namespace Sys2Proof.Machine

/-- The active bank of channel `c` as the NCO reads it: TXB[c][1 − STG[c]] (R60, R262). -/
def State.activeByte (s : State) (c : Chan) (k : Nat) : Byte := s.txb c (!(s.chan c).stg) (BitVec.ofNat 8 k)

/-- Channel `c`'s part in a TX sample step (R351). -/
def State.txSlot (s : State) (c : Chan) : TxSlot := txPart (s.activeByte c) (s.chan c)

/-- The mixed sample `m = sat16(t[0] + t[1] + t[2] + t[3])` (R352). -/
def State.mixed (s : State) : Int :=
  sat16 ((s.txSlot 0).sample + (s.txSlot 1).sample + (s.txSlot 2).sample + (s.txSlot 3).sample)

/-- Channel `c`'s part in `rx_feed(x)` (R355). -/
def State.rxSlot (s : State) (x : Sample) (c : Chan) : RxSlot := rxPart x (s.chan c)

/-- `rx_feed(x)` (R355) with RX_SAMPLE_CNT's increment (R350, R356). -/
def State.rxFeed (s : State) (x : Sample) : State :=
  { ((s.setChans fun c => (s.rxSlot x c).chan).raise
      (chanBits rxMsgBit (fun c => (s.rxSlot x c).msg) ||| chanBits rxqDropBit (fun c => (s.rxSlot x c).drop))) with
    rxSampleCnt := s.rxSampleCnt + 1 }

/-- The TX sample step is enabled (R350). -/
def State.txEnabled (s : State) : Bool := s.en && decide (s.txf.writerLevel < 64)

/-- The TX sample step without its loopback part (R350): every playing channel's NCO steps, the mix is pushed into TXF,
and SAMPLE_CNT counts. -/
def State.txProduce (s : State) : State :=
  { ((s.setChans fun c => (s.txSlot c).chan).raise (chanBits txDoneBit fun c => (s.txSlot c).done)) with
    txf := s.txf.push (toSample s.mixed),
    sampleCnt := s.sampleCnt + 1 }

/-- The TX sample step (R350). When it is not enabled it waits: nothing changes (log entry 3). -/
def State.txStep (s : State) : State :=
  if s.txEnabled then
    if s.loopback then s.txProduce.rxFeed (toSample s.mixed) else s.txProduce
  else s

/-- The RX sample step is enabled (R356). -/
def State.rxEnabled (s : State) : Bool := s.en && !s.loopback && decide (0 < s.rxf.readerLevel)

/-- The sample at the head of RXF (R386). -/
def State.rxHead (s : State) : Sample := s.rxf.entry s.epoch .rxf s.rxf.r

/-- The RX sample step (R356). When it is not enabled it waits (log entry 3). -/
def State.rxStep (s : State) : State :=
  if s.rxEnabled then { s with rxf := s.rxf.advance }.rxFeed s.rxHead else s

end Sys2Proof.Machine
end

