-- ==== Sys2Proof/Machine/Agents.lean ====
section
/-! DEFINITION. The agents' steps as one step relation: what each scheduled step does, and which step comes next
(spec/00_scope.md R6, R7; spec/20_memory.md R110; spec/70_reset_and_hazards.md R470, R471). -/

namespace Sys2Proof.Machine

/-- One agent's step with rst released. -/
def agentStep (e : Event) (s : State) : Result :=
  match e with
  | .host op => hostStep op s
  | .tx => .next s.txStep
  | .rx => .next s.rxStep
  | .dac => .next s.dacStep
  | .adc x => .next (s.adcStep x)
  | .syncW f v => .next (s.syncWStep f v)
  | .syncR f v => .next (s.syncRStep f v)
  | .syncEnDac => .next s.syncEnDac
  | .syncEnAdc => .next s.syncEnAdc
  | .syncUnd => .next s.syncUnd
  | .syncOvf => .next s.syncOvf
  | .rstAssert => .next s.assertReset
  | .rstRelease => .next { s with rst := false }
  | .rstOneDomain d => .refused (.partialReset d)

/-- A change of the reset pin, as opposed to a step of an agent. -/
def pinEvent : Event → Bool
  | .rstAssert => true
  | .rstRelease => true
  | .rstOneDomain _ => true
  | .host _ => false
  | .tx => false
  | .rx => false
  | .dac => false
  | .adc _ => false
  | .syncW _ _ => false
  | .syncR _ _ => false
  | .syncEnDac => false
  | .syncEnAdc => false
  | .syncUnd => false
  | .syncOvf => false

/-- A scheduled step: while rst is asserted no agent's step occurs, and only the pin can change (R470, R471). -/
def runEvent (e : Event) (s : State) : Result := if s.rst && !pinEvent e then .next s else agentStep e s

/-- The next scheduled step: the head of the pending list, else what the free schedule supplies (R6, U5). -/
def nextEvent (s : State) : Event := s.pending.headD (Config.schedule s.tick)

/-- The schedule after that step has been taken from it. -/
def takeEvent (s : State) : State :=
  match s.pending with
  | [] => { s with tick := s.tick + 1 }
  | _ :: rest => { s with pending := rest }

/-- Take the next step from the schedule and run it (R110: all steps form one total order). -/
def scheduledStep (s : State) : Result := runEvent (nextEvent s) (takeEvent s)

/-- The offset of CMD (R36). -/
def cmdOffset : Int := 0x014

/-- Make the write of command word `w` to CMD the very next step: it becomes the head of the pending list, and rst is
released, since no step occurs while it is asserted (R470). -/
def State.placeCommand (s : State) (w : Word) : State :=
  { s with rst := false, pending := .host (.write cmdOffset w) :: s.pending }

end Sys2Proof.Machine
end

