-- ==== Sys2Proof/Machine/Step.lean ====
section
/-! DEFINITION. One step of the machine: one atomic step of one agent (spec/00_scope.md R6, R7). -/

namespace Sys2Proof.Machine

/-- One step: the agent step that the schedule names next. -/
def step (s : State) : Host.Outcome State Fault Refusal := scheduledStep s

/-- `s` with the command word given by the `nbits` low bits of `w` as the next step: a host write of it to CMD. FSK-CORE
fetches no instructions (R31, R114), so this stands for the host's program (log entry 2). -/
def State.withFetchWord (s : State) (nbits w : Nat) : State := s.placeCommand (BitVec.ofNat 32 (w % 2 ^ nbits))

end Sys2Proof.Machine
end

