-- ==== Sys2Proof/Machine/Fskasm.lean ====
section
/-! DEFINITION. FSKASM, the host-program notation, as the schedule entries it stands for (spec/30_encoding.md R155 to R157).
A line has no meaning beyond its expansion (R156); other agents' steps may fall between its accesses (R110). -/

namespace Sys2Proof.Machine

/-- The offset of channel `c`'s register block, `CHB(c)` (10 section 3). -/
def chb (c : Chan) : Int := 0x100 + 0x40 * (c.val : Int)

/-- `wr OFF, VAL` (R155). -/
def asmWr (off : Int) (v : Word) : Event := .host (.write off v)

/-- `rd OFF` (R155). -/
def asmRd (off : Int) : Event := .host (.read off)

/-- A command mnemonic: exactly one write of its word to CMD (R155). -/
def asmCmd (i : Instr) : Event := asmWr cmdOffset (encode i)

/-- `cfg cN, BASE, SPACING, SYMRATE, ORDER, FRAME` (R156). -/
def asmCfg (c : Chan) (base spacing symRate order frame : Word) : List Event :=
  [asmWr (chb c) base, asmWr (chb c + 0x04) spacing, asmWr (chb c + 0x08) symRate, asmWr (chb c + 0x0C) order,
   asmWr (chb c + 0x10) frame]

/-- Word `j` of a byte string in a window, bytes past its end given as 0 (R156). -/
def asmWord (bytes : List Byte) (j : Nat) : Word :=
  wordOf (bytes.getD (4 * j + 3) 0) (bytes.getD (4 * j + 2) 0) (bytes.getD (4 * j + 1) 0) (bytes.getD (4 * j) 0)

/-- `txload cN, "S"` (R156). -/
def asmTxload (c : Chan) (bytes : List Byte) : List Event :=
  (List.range (ceilDiv bytes.length 4)).map
      (fun (j : Nat) => asmWr (0x800 + 0x100 * (c.val : Int) + 4 * (j : Int)) (asmWord bytes j)) ++
    [asmWr (chb c + 0x14) (BitVec.ofNat 32 bytes.length)]

/-- `sendmsg cN, "S"` (R156). -/
def asmSendmsg (c : Chan) (bytes : List Byte) : List Event := asmTxload c bytes ++ [asmCmd (.send c.val)]

/-- RXQ_HEAD_LEN of a CH_STATUS value (R45). -/
def headLenField (chStatus : Word) : Nat := (chStatus.extractLsb' 8 6).toNat

/-- `rxread cN` (R156). The number of head-window reads depends on the CH_STATUS value the first access returned. -/
def asmRxread (c : Chan) (chStatus : Word) : List Event :=
  asmRd (chb c + 0x18) ::
    (List.range (ceilDiv (headLenField chStatus) 4)).map
      (fun (j : Nat) => asmRd (0x400 + 0x20 * (c.val : Int) + 4 * (j : Int))) ++ [asmCmd (.rxqPop c.val)]

/-- `poll OFF, MASK, VAL` goes on until this holds of the value read (R156). -/
def pollDone (value mask val : Word) : Bool := value &&& mask == val

/-- `poll OFF, MASK, VAL` when `misses` reads did not meet the condition (R156). -/
def asmPoll (off : Int) (misses : Nat) : List Event := List.replicate (misses + 1) (asmRd off)

/-! ### `run N` (R157) -/

/-- A stretch of the schedule, run in order. -/
def runEvents : List Event → State → Result
  | [], s => .next s
  | e :: es, s =>
    match runEvent e s with
    | .next t => runEvents es t
    | .fault f => .fault f
    | .refused r => .refused r

/-- The schedule entry `e` is a TX sample step that occurs: one that finds the step enabled (R350). -/
def txOccurs (e : Event) (s : State) : Bool :=
  match e with
  | .tx => !s.rst && s.txEnabled
  | _ => false

/-- How many TX sample steps occur in a stretch of the schedule; an entry that finds the step not enabled is none. -/
def txOccurring : List Event → State → Nat
  | [], _ => 0
  | e :: es, s =>
    (txOccurs e s).toNat +
      match runEvent e s with
      | .next t => txOccurring es t
      | .fault _ => 0
      | .refused _ => 0

/-- A step of an agent other than the HOST: no bus access and no change of the reset pin. -/
def betweenAccesses : Event → Bool
  | .host _ => false
  | e => !pinEvent e

/-- What `run N` states of the stretch `es` that stands from `s` to the host's next access (R157): CTRL.EN is 1, the host
does nothing in it, and exactly N TX sample steps occur; the other agents step as the schedule has it (log entry 29). -/
def meetsRun (n : Nat) (es : List Event) (s : State) : Bool :=
  s.en && !s.rst && es.all betweenAccesses && txOccurring es s == n

/-- One entry leaves TXF: SYNC_W(TXF), a DAC step with the event synchronisers at once after it, SYNC_R(TXF), each view
brought to its true pointer. This is what schedule S_E puts after every TX sample step (95 section 0). -/
def asmDrain (f : Fifo) : List Event := [.syncW .txf f.w, .dac, .syncUnd, .syncOvf, .syncR .txf (f.r + 1)]

/-- The pointers and views that `asmDrain` leaves. -/
def Fifo.drained (f : Fifo) : Fifo := { f with r := f.r + 1, viewW := f.w, viewR := f.r + 1 }

/-- What goes before a TX sample step where the writer sees TXF full, and the pointers it leaves: the view of R is brought
up, and if TXF is full in truth, one entry is drained. Nothing where the writer sees room, so nothing under S_E. -/
def asmRoom (f : Fifo) : List Event × Fifo :=
  if f.writerLevel < 64 then ([], f)
  else if f.occupancy < 64 then ([.syncR .txf f.r], { f with viewR := f.r })
  else (.syncR .txf f.r :: asmDrain f, f.drained)

/-- `run N` from a state whose TXF has the pointers and views of `f`: one stretch that meets `meetsRun N`, the eager schedule
S_E of 95 section 0, in which the DAC drains TXF fast enough for the N steps to happen (R157, R397; log entry 29). -/
def asmRun : Fifo → Nat → List Event
  | _, 0 => []
  | f, n + 1 =>
    let room := asmRoom f
    let g := { room.2 with w := room.2.w + 1 }
    room.1 ++ .tx :: asmDrain g ++ asmRun g.drained n

end Sys2Proof.Machine
end

