-- ==== Sys2Proof/Safety.lean ====
section
/-! DEFINITION. The terms in which claims are made: the invariants of the machine (spec/10_state.md R51 to R72,
spec/44_fifo_cdc.md R380, R381, R386, spec/20_memory.md R120), runs, and the fairness of a schedule
(spec/44_fifo_cdc.md R397). -/

namespace Sys2Proof.Safety

open Sys2Proof.Machine

/-! ### Memory -/

/-- Every memory is in its canonical form: the transmit banks of each channel, and both FIFO memories. -/
def MemoryOk (s : State) : Prop :=
  (∀ c : Chan, Memory.wf (s.chan c).txb = true) ∧ ∀ id : FifoId, storeWf 64 (s.fifo id).mem = true

/-! ### FIFOs -/

/-- Views lag and never lead, and at most 64 entries exist (R380, R381). -/
structure FifoLag (f : Fifo) : Prop where
  /-- The reader never sees more entries than exist. -/
  reader : f.readerLevel ≤ f.occupancy
  /-- The writer never sees more free space than exists. -/
  writer : (f.r - f.viewR).toNat ≤ f.writerLevel
  /-- The writer never sees more than 64 entries. -/
  bound : f.writerLevel ≤ 64

/-- Every entry between R and W has been written since reset (R382, R386). -/
def FifoWritten (f : Fifo) : Prop :=
  ∀ k : Nat, k < f.occupancy → (storeRead f.mem (fifoIndex (f.r + BitVec.ofNat 7 k))).isSome = true

/-- Both FIFOs meet R381 and hold only written entries. -/
def FifosOk (s : State) : Prop := ∀ id : FifoId, FifoLag (s.fifo id) ∧ FifoWritten (s.fifo id)

/-- What a FIFO holds, oldest first. -/
def contents (epoch : Nat) (id : FifoId) (f : Fifo) : List Sample :=
  (List.range f.occupancy).map fun k => f.entry epoch id (f.r + BitVec.ofNat 7 k)

/-! ### Channels -/

/-- The engine of a joined channel was accepted by JOIN (R51, R52, R204, R207). -/
structure EngineOk (ch : Channel) : Prop where
  orderLo : 1 ≤ ch.orderAct.toNat
  orderHi : ch.orderAct.toNat ≤ 4
  period : 1 ≤ ch.pAct.toNat
  frameLo : 1 ≤ ch.frameAct.toNat
  frameHi : ch.frameAct.toNat ≤ 4096
  chunk : chunkBytesMax ch.frameAct.toNat ch.pAct.toNat ch.orderAct.toNat ≤ 32
  ftwZero : ∀ i : Lane, 2 ^ ch.orderAct.toNat ≤ i.val → ch.ftw[i.val] = 0

/-- Bit `j` of the assembled stream (R68). -/
def asmBit (rx : RxState) (j : Nat) : Bool := (rx.asm[j / 8]?.getD 0).getLsbD (7 - j % 8)

/-- The receive state of a joined channel (R66, R67, R68, R70). -/
structure RxOk (ch : Channel) : Prop where
  window : ch.rx.winN.toNat < ch.pAct.toNat
  position : ch.rx.winN.toNat = ch.rx.chunkCnt.toNat % ch.pAct.toNat
  frame : ch.rx.framePos.toNat < ch.frameAct.toNat
  chunk : ch.rx.chunkCnt.toNat ≤ 4 * ch.pAct.toNat - 1 + ch.rx.framePos.toNat
  bits : ch.rx.nbits.toNat = ch.orderAct.toNat * (ch.rx.chunkCnt.toNat / ch.pAct.toNat)
  bitsMax : ch.rx.nbits.toNat ≤ 256
  ref : ∀ i : Lane, i.val < 2 ^ ch.orderAct.toNat →
    ch.rx.ref[i.val] = BitVec.ofNat 32 (ch.rx.winN.toNat * ch.ftw[i.val].toNat)
  acc : ∀ i : Lane, ch.rx.acc[i.val].toInt.natAbs ≤ ch.rx.winN.toNat * (32768 * 16384)
  unused : ∀ i : Lane, 2 ^ ch.orderAct.toNat ≤ i.val → ch.rx.acc[i.val] = 0 ∧ ch.rx.ref[i.val] = 0
  zeros : ∀ j : Nat, ch.rx.nbits.toNat ≤ j → asmBit ch.rx j = false

/-- The transmit state (R61, R62): a busy channel is joined, its cursor is inside the message and its message is not
empty; a message has at most 256 bytes. -/
structure TxOk (ch : Channel) : Prop where
  len : ch.actLen.toNat ≤ 256
  busyJoined : ch.txBusy = true → ch.joined = true
  sym : ch.txBusy = true → ch.txSym.toNat < nsymTotal ch.actLen.toNat ch.orderAct.toNat
  samp : ch.txBusy = true → ch.txSamp.toNat < ch.pAct.toNat

/-- The inbound queue (R72): at most 10 messages of 1 to 32 bytes. -/
structure QueueOk (ch : Channel) : Prop where
  depth : ch.rxq.length ≤ 10
  sizes : ∀ m ∈ ch.rxq, 1 ≤ m.length ∧ m.length ≤ 32

/-- The invariant of a channel: its queue and transmit state always; its engine and receive state while joined. -/
structure ChannelOk (ch : Channel) : Prop where
  queue : QueueOk ch
  tx : TxOk ch
  engine : ch.joined = true → EngineOk ch
  rx : ch.joined = true → RxOk ch

/-- Every channel meets its invariant. -/
def ChannelsOk (s : State) : Prop := ∀ c : Chan, ChannelOk (s.chan c)

/-! ### Flags -/

/-- The reserved bits of IRQ_STATUS and IRQ_ENABLE are 0 (R38, R39). -/
def FlagsOk (s : State) : Prop := s.irqStatus &&& ~~~irqMask = 0 ∧ s.irqEnable &&& ~~~irqMask = 0

/-- The codes of R421. -/
def allCodes : List Nat := [0x00, 0x01, 0x02, 0x03, 0x04, 0x05, 0x06, 0x07, 0x08, 0x09, 0x0A, 0xFF]

/-- CMD_RESULT has zero reserved bits and a code of R421 (R37, R421). -/
def ResultOk (s : State) : Prop := s.cmdResult.toNat < 2 ^ 20 ∧ s.cmdResult.toNat % 256 ∈ allCodes

/-! ### Runs and schedules -/

/-- A run under a schedule: step `n` is `sched n`, taken at `st n` and answering `st (n + 1)` (R110). -/
def IsRun (sched : Nat → Event) (st : Nat → State) : Prop := ∀ n, runEvent (sched n) (st n) = .next (st (n + 1))

/-- Whenever `wants` holds at some step, a step that `takes` accepts comes later, or a reset does. -/
def Eventually (sched : Nat → Event) (st : Nat → State) (wants : State → Prop) (takes : State → Event → Prop) : Prop :=
  ∀ n, wants (st n) → ∃ m, n ≤ m ∧ (takes (st m) (sched m) ∨ sched m = .rstAssert)

/-- The fairness assumptions of R397: SYNC steps that would change their target are taken, DAC and ADC steps keep
occurring, and an enabled CORE sample step is taken (log entry 23).

DESIGN CHOICE (log entry 28): R397 does not say what becomes of a step that was due and, before it was taken, no longer is
(EN cleared or RXF discarded before an enabled sample step; EN put back before the enable crosses). Here any later entry of
that kind discharges it, also one that finds the step not enabled and changes nothing; so does a reset. Safe: a weaker
premise admits more runs. -/
structure Fair (sched : Nat → Event) (st : Nat → State) : Prop where
  pointerW : ∀ f : FifoId, Eventually sched st (fun s => (s.fifo f).viewW ≠ (s.fifo f).w)
    (fun s e => ∃ v, e = .syncW f v ∧ (s.fifo f).syncW v ≠ s.fifo f)
  pointerR : ∀ f : FifoId, Eventually sched st (fun s => (s.fifo f).viewR ≠ (s.fifo f).r)
    (fun s e => ∃ v, e = .syncR f v ∧ (s.fifo f).syncR v ≠ s.fifo f)
  enDac : Eventually sched st (fun s => s.enA ≠ s.en) (fun _ e => e = .syncEnDac)
  enAdc : Eventually sched st (fun s => s.rxenA ≠ (s.en && !s.loopback)) (fun _ e => e = .syncEnAdc)
  underrun : Eventually sched st (fun s => s.undPend = true) (fun _ e => e = .syncUnd)
  overflow : Eventually sched st (fun s => s.ovfPend = true) (fun _ e => e = .syncOvf)
  dac : Eventually sched st (fun _ => True) (fun _ e => e = .dac)
  adc : Eventually sched st (fun _ => True) (fun _ e => ∃ x, e = .adc x)
  tx : Eventually sched st (fun s => s.txEnabled = true) (fun _ e => e = .tx)
  rx : Eventually sched st (fun s => s.rxEnabled = true) (fun _ e => e = .rx)

/-! ### Names that claims use -/

/-- The CMD_RESULT value `(0, CH, OP, CODE)` as a number (R37). -/
def resultOf (op ch code : Nat) : Word := BitVec.ofNat 32 (ch * 65536 + op * 256 + code)

/-- The word an event writes to CMD, if it is a write to CMD's word 0x014 (R36, R103). -/
def cmdWritten : Event → Option Word
  | .host (.write off w) => if 0x14 ≤ off ∧ off < 0x18 then some w else none
  | .host (.read _) => none
  | .host (.narrow _ _) => none
  | .tx => none
  | .rx => none
  | .dac => none
  | .adc _ => none
  | .syncW _ _ => none
  | .syncR _ _ => none
  | .syncEnDac => none
  | .syncEnAdc => none
  | .syncUnd => none
  | .syncOvf => none
  | .rstAssert => none
  | .rstRelease => none
  | .rstOneDomain _ => none

/-- The event is a write to CMD of a word that decodes to `i`. -/
def runsCommand (e : Event) (i : Instr) : Prop := ∃ w, cmdWritten e = some w ∧ decode w = .ok i

/-- The command names channel `c` in its CH operand. -/
def namesChannel (i : Instr) (c : Chan) : Prop :=
  match i with
  | .nop => False
  | .join ch => ch = c.val
  | .leave ch => ch = c.val
  | .send ch => ch = c.val
  | .broadcast => False
  | .rxReset ch => ch = c.val
  | .rxqPop ch => ch = c.val
  | .rxfDiscard => False

/-- A command that only reports `code`: CMD_RESULT gets it, CMD_ERR is set, and nothing else changes (R200). -/
def reported (s : State) (op ch code : Nat) : Result :=
  .next { s with cmdResult := resultOf op ch code, irqStatus := s.irqStatus ||| bit 18 }

/-- What R150 to R153 and R201 say of a command that takes a channel: its words, BAD_CHANNEL and ILLEGAL. -/
structure ChannelCommand (op : Nat) (mk : Nat → Instr) : Prop where
  word : ∀ ch : Nat, ch < 16 → decode (BitVec.ofNat 32 (op + 256 * ch)) = .ok (mk ch)
  badChannel : ∀ (s : State) (ch : Nat), 4 ≤ ch → ch ≤ 15 → exec (mk ch) s = reported s op ch 0x01
  illegal : ∀ (s : State) (w : Word), w.toNat % 256 = op → w.toNat / 4096 ≠ 0 →
    commandWrite w s = reported s op (w.toNat / 256 % 16) 0xFF

/-- What R150 to R152 and R201 say of a command that takes no channel: its one word, and ILLEGAL for any other with its
OP. -/
structure PlainCommand (op : Nat) (i : Instr) : Prop where
  word : decode (BitVec.ofNat 32 op) = .ok i
  illegal : ∀ (s : State) (w : Word), w.toNat % 256 = op → w.toNat ≠ op →
    commandWrite w s = reported s op (w.toNat / 256 % 16) 0xFF

/-- What JOIN requires of channel `c` (R204), with SR, SymR, O, P and F as R204 names them. -/
structure Joinable (s : State) (c : Chan) : Prop where
  free : (s.chan c).joined = false
  orderLo : 1 ≤ (s.chan c).order.toNat
  orderHi : (s.chan c).order.toNat ≤ 4
  sampleRate : s.sampleRate.toNat ≠ 0
  symbolRate : (s.chan c).symbolRate.toNat ≠ 0
  periodLo : 1 ≤ (2 * s.sampleRate.toNat + (s.chan c).symbolRate.toNat) / (2 * (s.chan c).symbolRate.toNat)
  periodHi : (2 * s.sampleRate.toNat + (s.chan c).symbolRate.toNat) / (2 * (s.chan c).symbolRate.toNat) ≤ 65535
  frameLo : 1 ≤ (s.chan c).frameLen.toNat
  frameHi : (s.chan c).frameLen.toNat ≤ 4096
  chunk : ((4 + ((s.chan c).frameLen.toNat - 1) /
      ((2 * s.sampleRate.toNat + (s.chan c).symbolRate.toNat) / (2 * (s.chan c).symbolRate.toNat))) *
      (s.chan c).order.toNat + 7) / 8 ≤ 32

/-- `n` TX sample steps of one channel alone, its active bank read through `rd`. -/
def playSteps (rd : Nat → Byte) : Nat → Channel → Channel
  | 0, ch => ch
  | n + 1, ch => playSteps rd n (txPart rd ch).chan

/-- The samples of a stream received one by one by one channel. -/
def receiveAll (ch : Channel) (xs : List Sample) : Channel := xs.foldl (fun ch x => (rxPart x ch).chan) ch

/-- Two channels have the same engine and the same receive side, whatever their transmit sides hold. -/
structure SameReceiver (a b : Channel) : Prop where
  joined : a.joined = b.joined
  order : a.orderAct = b.orderAct
  period : a.pAct = b.pAct
  frame : a.frameAct = b.frameAct
  ftw : a.ftw = b.ftw
  rx : a.rx = b.rx
  rxq : a.rxq = b.rxq
  drops : a.rxqDrops = b.rxqDrops

/-- The offsets R101 reserves. -/
def reservedOffset (off : Int) : Prop :=
  (0x02C ≤ off ∧ off < 0x100) ∨ (0x200 ≤ off ∧ off < 0x400) ∨ (0x480 ≤ off ∧ off < 0x800) ∨ (0xC00 ≤ off ∧ off < 0x1000)

/-- The read-write registers of 10 sections 2 and 3 other than IRQ_STATUS: offset and mask of the defined bits. -/
def rwRegisters : List (Int × Word) :=
  [(0x008, 0x3), (0x010, 0xFFFFFFFF), (0x020, 0x70FFF)] ++
    allChans.flatMap fun c =>
      [(chb c, 0xFFFFFFFF), (chb c + 0x04, 0xFFFFFFFF), (chb c + 0x08, 0xFFFFFFFF), (chb c + 0x0C, 0x7),
       (chb c + 0x10, 0xFFFF), (chb c + 0x14, 0x1FF), (chb c + 0x24, 0xF)]

/-- The read-only registers of 10 sections 2 and 3. -/
def roRegisters : List Int :=
  [0x000, 0x004, 0x00C, 0x018, 0x024, 0x028] ++
    allChans.flatMap fun c =>
      [chb c + 0x18, chb c + 0x1C, chb c + 0x20, chb c + 0x28, chb c + 0x2C, chb c + 0x30, chb c + 0x34, chb c + 0x38,
       chb c + 0x3C]

/-- The value a read at `off` returns. -/
def readAt (s : State) (off : Int) : Word := readReg s (regAt (offsetBits off))

end Sys2Proof.Safety
end

