-- ==== Sys2Proof/Certificates/Slice0/Obligations.lean ====
section
/-! DEFINITION. The statements for the provers. -/

open Sys2Proof Sys2Proof.Machine Sys2Proof.Safety

/-! ### Encoding -/

/-- Words written out from the encodings of R150, R151 and the examples of R155 and 95 section 2.1. -/
def Obligations.SpecWordsDecode : Prop :=
  decode 0x00000000 = .ok .nop ∧ decode 0x00000301 = .ok (.join 3) ∧ decode 0x00000302 = .ok (.leave 3) ∧
  decode 0x00000203 = .ok (.send 2) ∧ decode 0x00000004 = .ok .broadcast ∧ decode 0x00000F05 = .ok (.rxReset 15) ∧
  decode 0x00000106 = .ok (.rxqPop 1) ∧ decode 0x00000007 = .ok .rxfDiscard ∧
  decode 0x00000008 = .error .illegalOp ∧ decode 0x00001001 = .error .reservedNotZero ∧
  decode 0x80000003 = .error .reservedNotZero ∧ decode 0x00000104 = .error .channelNotAllowed

/-- Decoding an encoded well-formed command gives it back, for every command and every CH operand; and every legal word is
the encoding of the one well-formed command it decodes to. -/
def Obligations.DecodeEncodeAgree : Prop :=
  (∀ i : Instr, i.wf = true → decode (encode i) = .ok i) ∧
  ∀ (w : Word) (i : Instr), decode w = .ok i → i.wf = true ∧ encode i = w

/-- R151: a channel command is selected by `w & 0xFFFFF0FF == OP`, a command without channel by `w == OP`, any other word is
illegal. -/
def Obligations.SelectionByOpcode : Prop :=
  ∀ w : Word,
    (decode w = .ok .nop ↔ w = 0x00) ∧
    (∀ ch, decode w = .ok (.join ch) ↔ w &&& 0xFFFFF0FF = 0x01 ∧ ch = w.toNat / 256 % 16) ∧
    (∀ ch, decode w = .ok (.leave ch) ↔ w &&& 0xFFFFF0FF = 0x02 ∧ ch = w.toNat / 256 % 16) ∧
    (∀ ch, decode w = .ok (.send ch) ↔ w &&& 0xFFFFF0FF = 0x03 ∧ ch = w.toNat / 256 % 16) ∧
    (decode w = .ok .broadcast ↔ w = 0x04) ∧
    (∀ ch, decode w = .ok (.rxReset ch) ↔ w &&& 0xFFFFF0FF = 0x05 ∧ ch = w.toNat / 256 % 16) ∧
    (∀ ch, decode w = .ok (.rxqPop ch) ↔ w &&& 0xFFFFF0FF = 0x06 ∧ ch = w.toNat / 256 % 16) ∧
    (decode w = .ok .rxfDiscard ↔ w = 0x07) ∧
    ((∃ e, decode w = .error e) ↔
      ¬(w = 0x00 ∨ w = 0x04 ∨ w = 0x07 ∨ w &&& 0xFFFFF0FF = 0x01 ∨ w &&& 0xFFFFF0FF = 0x02 ∨ w &&& 0xFFFFF0FF = 0x03 ∨
        w &&& 0xFFFFF0FF = 0x05 ∨ w &&& 0xFFFFF0FF = 0x06))

/-- R152: which words are illegal, and all that writing one to CMD does, at a step of the machine. -/
def Obligations.IllegalWordOnlyReports : Prop :=
  ∀ w : Word,
    ((∃ e, decode w = .error e) ↔
      8 ≤ w.toNat % 256 ∨ w.toNat / 4096 ≠ 0 ∨
        ((w.toNat % 256 = 0 ∨ w.toNat % 256 = 4 ∨ w.toNat % 256 = 7) ∧ w.toNat / 256 % 16 ≠ 0)) ∧
    ∀ s : State, (∃ e, decode w = .error e) → s.rst = false →
      runEvent (.host (.write 0x014 w)) s =
        reported s (w.toNat % 256) (w.toNat / 256 % 16) 0xFF

/-- R153: a channel command with CH 4..15 is a legal encoding, answers BAD_CHANNEL and has no other effect (CMD_ERR marks
the failure, R200). -/
def Obligations.MissingChannelReportsBadChannel : Prop :=
  ∀ (s : State) (ch : Nat), 4 ≤ ch → ch ≤ 15 →
    ∀ i ∈ [Instr.join ch, .leave ch, .send ch, .rxReset ch, .rxqPop ch],
      decode (encode i) = .ok i ∧ exec i s = reported s i.op.toNat ch 0x01

/-- A step with a CMD write of a legal word at the head of the schedule is exec of the decoded command, at the state whose
schedule has moved on. -/
def Obligations.StepRunsDecodedCommand : Prop :=
  ∀ (s : State) (w : Word) (i : Instr) (rest : List Event), s.rst = false → decode w = .ok i → i.wf = true →
    s.pending = .host (.write 0x014 w) :: rest → step s = exec i { s with pending := rest }

/-! ### Commands -/

/-- R200: every write to CMD completes; CMD_RESULT gets CH, OP and CODE of the word; CMD_ERR is set exactly by a nonzero
code; and every command except BROADCAST changes anything else only when the code is OK. BROADCAST can change a channel and still report a
nonzero code. -/
def Obligations.CommandCompletion : Prop :=
  (∀ (s : State) (w : Word), ∃ (t : State) (code : ResultCode),
    commandWrite w s = .next t ∧
    t.cmdResult = resultOf (w.toNat % 256) (w.toNat / 256 % 16) code.toByte.toNat ∧
    t.irqStatus.getLsbD 18 = (s.irqStatus.getLsbD 18 || decide (code ≠ .ok)) ∧
    (code ≠ .ok → w ≠ 0x04 →
      t = { s with cmdResult := t.cmdResult, irqStatus := s.irqStatus ||| bit 18 })) ∧
  ∃ s t : State, exec .broadcast s = .next t ∧ t.cmdResult.toNat % 256 ≠ 0 ∧ t.chans ≠ s.chans

/-- R240: NOP only clears CMD_RESULT; with any other bit set the word is illegal. -/
def Obligations.NopClearsResult : Prop :=
  (∀ s : State, exec .nop s = .next { s with cmdResult := 0 }) ∧ PlainCommand 0x00 .nop

/-- R210 with R205 and R208: JOIN of a channel that meets R204 builds its engine; otherwise one of the six codes of R204 is
reported and nothing else changes. -/
def Obligations.JoinBuildsEngine : Prop :=
  ChannelCommand 0x01 .join ∧ ∀ (s : State) (c : Chan),
    (Joinable s c → ∃ e : Channel,
      exec (.join c.val) s = .next { s.setChan c e with cmdResult := resultOf 0x01 c.val 0x00 } ∧
      e = { s.chan c with
        joined := true, orderAct := (s.chan c).order, pAct := e.pAct, frameAct := (s.chan c).frameLen, ftw := e.ftw,
        phase := Vector.replicate 16 0, actLen := 0, txBusy := false, txSym := 0, txSamp := 0, rx := RxState.clear,
        rxq := [], rxqDrops := 0, nyqWarn := e.nyqWarn } ∧
      e.pAct.toNat = (2 * s.sampleRate.toNat + (s.chan c).symbolRate.toNat) / (2 * (s.chan c).symbolRate.toNat) ∧
      (∀ i : Lane, i.val < 2 ^ (s.chan c).order.toNat →
        e.ftw[i.val].toNat =
          (((s.chan c).baseFreq.toNat + i.val * (s.chan c).freqSpacing.toNat) * 2 ^ 33 + s.sampleRate.toNat) /
            (2 * s.sampleRate.toNat) % 2 ^ 32) ∧
      (∀ i : Lane, 2 ^ (s.chan c).order.toNat ≤ i.val → e.ftw[i.val] = 0) ∧
      (e.nyqWarn = true ↔
        s.sampleRate.toNat ≤
          2 * ((s.chan c).baseFreq.toNat + (2 ^ (s.chan c).order.toNat - 1) * (s.chan c).freqSpacing.toNat))) ∧
    (¬Joinable s c → ∃ code : Nat, code ∈ [0x03, 0x04, 0x05, 0x06, 0x07, 0x08] ∧
      exec (.join c.val) s = reported s 0x01 c.val code)

/-- R204: the six checks in order; the first that fails gives the result and JOIN changes nothing else. -/
def Obligations.JoinChecksInOrder : Prop :=
  ∀ (s : State) (c : Chan),
    let ch := s.chan c
    let o := ch.order.toNat
    let sr := s.sampleRate.toNat
    let symR := ch.symbolRate.toNat
    let p := (2 * sr + symR) / (2 * symR)
    let f := ch.frameLen.toNat
    let fails := fun code : Nat => exec (.join c.val) s = reported s 0x01 c.val code
    (ch.joined = true → fails 0x03) ∧
    (ch.joined = false → ¬(1 ≤ o ∧ o ≤ 4) → fails 0x04) ∧
    (ch.joined = false → 1 ≤ o → o ≤ 4 → sr = 0 → fails 0x05) ∧
    (ch.joined = false → 1 ≤ o → o ≤ 4 → sr ≠ 0 → symR = 0 → fails 0x06) ∧
    (ch.joined = false → 1 ≤ o → o ≤ 4 → sr ≠ 0 → symR ≠ 0 → ¬(1 ≤ p ∧ p ≤ 65535) → fails 0x07) ∧
    (ch.joined = false → 1 ≤ o → o ≤ 4 → sr ≠ 0 → symR ≠ 0 → 1 ≤ p → p ≤ 65535 →
      (¬(1 ≤ f ∧ f ≤ 4096) ∨ 32 < ((4 + (f - 1) / p) * o + 7) / 8) → fails 0x08)

/-- R215: LEAVE closes a joined channel's session and keeps PHASE, FTW, P_ACT, ORDER_ACT, RXQ_DROPS and STG; the channel then
contributes 0; on an unjoined channel it only reports NOT_JOINED. -/
def Obligations.LeaveClosesSession : Prop :=
  ChannelCommand 0x02 .leave ∧ ∀ (s : State) (c : Chan),
    ((s.chan c).joined = true → ∃ t : State,
      exec (.leave c.val) s = .next t ∧
      t = { s.setChan c { s.chan c with
              joined := false, actLen := 0, txBusy := false, txSym := 0, txSamp := 0, rx := RxState.clear, rxq := [] } with
            cmdResult := resultOf 0x02 c.val 0x00 } ∧
      (t.txSlot c).sample = 0 ∧
      readAt t (chb c + 0x28) = readAt s (chb c + 0x28) ∧ readAt t (chb c + 0x2C) = readAt s (chb c + 0x2C)) ∧
    ((s.chan c).joined = false →
      exec (.leave c.val) s = reported s 0x02 c.val 0x02)

/-- R220: SEND swaps the banks, latches TX_LEN, restarts the cursor and leaves the phase bank; an empty message completes at
once with TX_DONE; TX_LEN above 256 and an unjoined channel are reported without any other effect. -/
def Obligations.SendReplacesMessage : Prop :=
  ChannelCommand 0x03 .send ∧ ∀ (s : State) (c : Chan),
    ((s.chan c).joined = true → (s.chan c).txLen.toNat ≤ 256 → ∃ t : State,
      exec (.send c.val) s = .next t ∧
      t = { s.setChan c { s.chan c with
              stg := !(s.chan c).stg, actLen := (s.chan c).txLen, txSym := 0, txSamp := 0,
              txBusy := decide ((s.chan c).txLen.toNat ≠ 0) } with
            cmdResult := resultOf 0x03 c.val 0x00,
            irqStatus := if (s.chan c).txLen.toNat = 0 then s.irqStatus ||| bit c.val else s.irqStatus } ∧
      ∀ k : Nat, stageByte t c k = s.txb c (!(s.chan c).stg) (BitVec.ofNat 8 k)) ∧
    ((s.chan c).joined = true → 256 < (s.chan c).txLen.toNat →
      exec (.send c.val) s = reported s 0x03 c.val 0x0A) ∧
    ((s.chan c).joined = false →
      exec (.send c.val) s = reported s 0x03 c.val 0x02)

/-- R225: BROADCAST starts every joined channel's staged message, each from its own bank and TX_LEN; a joined channel with
TX_LEN above 256 is skipped and makes the result LEN_RANGE; TX_DONE[c] is set for each joined channel with an empty message. -/
def Obligations.BroadcastSendsOnEveryJoinedChannel : Prop :=
  PlainCommand 0x04 .broadcast ∧ ∀ s : State, ∃ (t : State) (code : Nat),
    exec .broadcast s = .next t ∧
    t = { s with chans := t.chans, cmdResult := resultOf 0x04 0 code, irqStatus := t.irqStatus } ∧
    (code = 0x0A ↔ ∃ c : Chan, (s.chan c).joined = true ∧ 256 < (s.chan c).txLen.toNat) ∧
    (code = 0x00 ∨ code = 0x0A) ∧
    (∀ c : Chan, (s.chan c).joined = true → (s.chan c).txLen.toNat ≤ 256 →
      t.chan c = { s.chan c with
        stg := !(s.chan c).stg, actLen := (s.chan c).txLen, txSym := 0, txSamp := 0,
        txBusy := decide ((s.chan c).txLen.toNat ≠ 0) }) ∧
    (∀ c : Chan, (s.chan c).joined = false ∨ 256 < (s.chan c).txLen.toNat → t.chan c = s.chan c) ∧
    (∀ b : Nat, t.irqStatus.getLsbD b =
      (s.irqStatus.getLsbD b ||
        decide (∃ c : Chan, c.val = b ∧ (s.chan c).joined = true ∧ (s.chan c).txLen.toNat = 0) ||
        decide (b = 18 ∧ code = 0x0A)))

/-- R217: RX_RESET performs rx_clear on a joined channel and nothing else; RX_WIN and RX_CHUNK then read 0. -/
def Obligations.RxResetClearsReceiveState : Prop :=
  ChannelCommand 0x05 .rxReset ∧ ∀ (s : State) (c : Chan),
    ((s.chan c).joined = true → ∃ t : State,
      exec (.rxReset c.val) s = .next t ∧
      t = { s.setChan c { s.chan c with rx := RxState.clear } with cmdResult := resultOf 0x05 c.val 0x00 } ∧
      readAt t (chb c + 0x34) = 0 ∧ readAt t (chb c + 0x38) = 0) ∧
    ((s.chan c).joined = false →
      exec (.rxReset c.val) s = reported s 0x05 c.val 0x02)

/-- R230: RXQ_POP removes the head message; an empty queue and an unjoined channel are reported without any other effect. -/
def Obligations.RxqPopRemovesHead : Prop :=
  ChannelCommand 0x06 .rxqPop ∧ ∀ (s : State) (c : Chan),
    (∀ (m : List Byte) (rest : List (List Byte)), (s.chan c).joined = true → (s.chan c).rxq = m :: rest →
      exec (.rxqPop c.val) s =
        .next { s.setChan c { s.chan c with rxq := rest } with cmdResult := resultOf 0x06 c.val 0x00 }) ∧
    ((s.chan c).joined = true → (s.chan c).rxq = [] →
      exec (.rxqPop c.val) s = reported s 0x06 c.val 0x09) ∧
    ((s.chan c).joined = false →
      exec (.rxqPop c.val) s = reported s 0x06 c.val 0x02)

/-- R235: RXF_DISCARD moves RXF.R to the reader's view of W; RXF_LEVEL then reads 0, and what the core side could not see
yet is still in the FIFO. -/
def Obligations.RxfDiscardDropsVisibleEntries : Prop :=
  PlainCommand 0x07 .rxfDiscard ∧ ∀ s : State, ∃ t : State,
    exec .rxfDiscard s = .next t ∧
    t = { s with rxf := { s.rxf with r := s.rxf.viewW }, cmdResult := resultOf 0x07 0 0x00 } ∧
    (readAt t 0x00C).extractLsb' 8 7 = 0 ∧
    t.rxf.occupancy = (s.rxf.w - s.rxf.viewW).toNat

/-- The frame of all commands: what no command touches, what only the named channel's command touches, every TXB byte, and
the interrupt bits a command may set. -/
def Obligations.CommandFrame : Prop :=
  ∀ (i : Instr) (s t : State), exec i s = .next t →
    t = { s with chans := t.chans, rxf := { s.rxf with r := t.rxf.r }, cmdResult := t.cmdResult, irqStatus := t.irqStatus } ∧
    (i ≠ .rxfDiscard → t.rxf = s.rxf) ∧
    (∀ c : Chan, i ≠ .broadcast → ¬namesChannel i c → t.chan c = s.chan c) ∧
    (∀ (c : Chan) (bank : Bool) (k : Byte), t.txb c bank k = s.txb c bank k) ∧
    (∀ c : Chan, t.chan c =
      { t.chan c with
        baseFreq := (s.chan c).baseFreq, freqSpacing := (s.chan c).freqSpacing, symbolRate := (s.chan c).symbolRate,
        order := (s.chan c).order, frameLen := (s.chan c).frameLen, txLen := (s.chan c).txLen,
        phaseSel := (s.chan c).phaseSel }) ∧
    (∀ c : Chan, i ≠ .join c.val → t.chan c =
      { t.chan c with
        orderAct := (s.chan c).orderAct, pAct := (s.chan c).pAct, frameAct := (s.chan c).frameAct, ftw := (s.chan c).ftw,
        nyqWarn := (s.chan c).nyqWarn, phase := (s.chan c).phase, rxqDrops := (s.chan c).rxqDrops }) ∧
    (∀ b : Nat, 4 ≤ b → b ≠ 18 → t.irqStatus.getLsbD b = s.irqStatus.getLsbD b) ∧
    (∀ c : Chan, i ≠ .broadcast → i ≠ .send c.val → t.irqStatus.getLsbD c.val = s.irqStatus.getLsbD c.val)

/-! ### Waveform synthesis -/

/-- R261 and R262: the stream is MSB first and zero past the end, and a symbol is the next O bits of it, the first the most
significant; no step but SEND, BROADCAST and reset changes a byte of a channel's active bank. -/
def Obligations.SymbolsAreMsbFirst : Prop :=
  (∀ (rd : Nat → Byte) (len : Nat),
    (∀ j, j < 8 * len → streamBit rd len j = ((rd (j / 8)).getLsbD (7 - j % 8)).toNat) ∧
    (∀ j, 8 * len ≤ j → streamBit rd len j = 0) ∧
    ∀ o k : Nat, symbolAt rd len o k < 2 ^ o ∧
      ∀ t, t < o → symbolAt rd len o k / 2 ^ (o - 1 - t) % 2 = streamBit rd len (k * o + t)) ∧
  ∀ (e : Event) (s t : State) (c : Chan) (k : Nat), runEvent e s = .next t → e ≠ .rstAssert →
    ¬runsCommand e (.send c.val) → ¬runsCommand e .broadcast → t.activeByte c k = s.activeByte c k

/-- R274: the properties of the sine table. The extreme values stand at the entries R274 names; the normative table of R273
holds them at the neighbours 255 and 767 as well, as the mirror symmetry requires, and at no other entry. -/
def Obligations.SineTableProperties : Prop :=
  (∀ k, k < 512 → lut (k + 512) = -lut k) ∧ (∀ k, 1 ≤ k → k < 512 → lut (512 - k) = lut k) ∧ lut 0 = 0 ∧ lut 512 = 0 ∧
  (∀ k, k < 1024 → lut k ≤ 16384 ∧ (lut k = 16384 ↔ k = 255 ∨ k = 256 ∨ k = 257)) ∧
  (∀ k, k < 1024 → -16384 ≤ lut k ∧ (lut k = -16384 ↔ k = 767 ∨ k = 768 ∨ k = 769)) ∧
  ((List.range 1024).map lut).sum = 0

/-- R270: the NCO step of a playing channel emits the table value of the active entry's phase before the advance, advances
that entry alone modulo 2^32, and moves the cursor as R271 says. -/
def Obligations.NcoStepAdvancesActiveEntryOnly : Prop :=
  ∀ (s : State) (c : Chan), ChannelOk (s.chan c) → (s.chan c).joined = true → (s.chan c).txBusy = true →
    let ch := s.chan c
    let y := symbolAt (s.activeByte c) ch.actLen.toNat ch.orderAct.toNat ch.txSym.toNat
    ∃ h : y < 16,
      (s.txSlot c).sample = lut (ch.phase[y].toNat / 2 ^ 22) ∧
      -16384 ≤ (s.txSlot c).sample ∧ (s.txSlot c).sample ≤ 16384 ∧
      (s.txSlot c).chan.phase[y].toNat = (ch.phase[y].toNat + ch.ftw[y].toNat) % 2 ^ 32 ∧
      (∀ j : Lane, j.val ≠ y → (s.txSlot c).chan.phase[j.val] = ch.phase[j.val]) ∧
      (s.txSlot c).chan = { cursorAdvance ch with phase := (s.txSlot c).chan.phase } ∧
      (s.txSlot c).done = cursorDone ch

/-- R271: the play cursor, and when the message completes; the enabled TX sample step that completes it sets TX_DONE[c] and
clears TX_BUSY[c]. -/
def Obligations.CursorAdvances : Prop :=
  ∀ (s : State) (c : Chan), ChannelOk (s.chan c) → (s.chan c).joined = true → (s.chan c).txBusy = true →
    let ch := s.chan c
    let n := nsymTotal ch.actLen.toNat ch.orderAct.toNat
    let u := s.txSlot c
    (ch.txSamp.toNat + 1 < ch.pAct.toNat →
      u.chan.txSamp.toNat = ch.txSamp.toNat + 1 ∧ u.chan.txSym = ch.txSym ∧ u.chan.txBusy = true ∧ u.done = false) ∧
    (ch.txSamp.toNat + 1 = ch.pAct.toNat → ch.txSym.toNat + 1 < n →
      u.chan.txSamp = 0 ∧ u.chan.txSym.toNat = ch.txSym.toNat + 1 ∧ u.chan.txBusy = true ∧ u.done = false) ∧
    (ch.txSamp.toNat + 1 = ch.pAct.toNat → ch.txSym.toNat + 1 = n →
      u.chan.txSamp = 0 ∧ u.chan.txSym.toNat = n ∧ u.chan.txBusy = false ∧ u.done = true) ∧
    (u.done = true → s.rst = false → s.txEnabled = true → ∃ t : State,
      runEvent .tx s = .next t ∧ t.irqStatus.getLsbD c.val = true ∧ (t.chan c).txBusy = false)

/-- R263: a message of L bytes at Order O has ceil(8·L / O) symbols, at most 2048, and a message that starts playing lasts
exactly NSYM_TOTAL · P TX sample steps, its cursor at symbol n div P and sample n mod P after n of them. -/
def Obligations.MessageLastsSymbolsTimesPeriod : Prop :=
  (∀ len o : Nat, 1 ≤ o → o ≤ 4 → len ≤ 256 →
    8 * len ≤ o * nsymTotal len o ∧ o * nsymTotal len o < 8 * len + o ∧ nsymTotal len o ≤ 2048) ∧
  nsymTotal 0 4 = 0 ∧ nsymTotal 256 1 = 2048 ∧ nsymTotal 11 2 = 44 ∧
  ∀ (rd : Nat → Byte) (ch : Channel), ChannelOk ch → ch.joined = true → ch.txBusy = true → ch.txSym = 0 → ch.txSamp = 0 →
    let n := nsymTotal ch.actLen.toNat ch.orderAct.toNat
    (∀ k, k < n * ch.pAct.toNat →
      (playSteps rd k ch).txBusy = true ∧ (playSteps rd k ch).txSym.toNat = k / ch.pAct.toNat ∧
      (playSteps rd k ch).txSamp.toNat = k % ch.pAct.toNat) ∧
    ∀ k, n * ch.pAct.toNat ≤ k →
      (playSteps rd k ch).txBusy = false ∧ (playSteps rd k ch).txSym.toNat = n ∧ (playSteps rd k ch).txSamp = 0

/-- R276: a channel that is not joined or not busy contributes exactly 0 to the mix, and a TX sample step leaves its phase
bank and cursor. -/
def Obligations.SilentChannelContributesZero : Prop :=
  ∀ (s : State) (c : Chan), (s.chan c).joined = false ∨ (s.chan c).txBusy = false →
    (s.txSlot c).sample = 0 ∧
    ∀ t : State, runEvent .tx s = .next t →
      (t.chan c).phase = (s.chan c).phase ∧ (t.chan c).txSym = (s.chan c).txSym ∧ (t.chan c).txSamp = (s.chan c).txSamp

/-- R352: the mix is the exact sum saturated once to 16 bits; at most one busy channel never saturates; with two only +32768
does. -/
def Obligations.MixerSaturatesTheSum : Prop :=
  ∀ s : State,
    let t := fun c : Chan => (s.txSlot c).sample
    let m := t 0 + t 1 + t 2 + t 3
    s.mixed = (if m < -32768 then -32768 else if 32767 < m then 32767 else m) ∧
    (∀ c : Chan, -16384 ≤ t c ∧ t c ≤ 16384) ∧ -65536 ≤ m ∧ m ≤ 65536 ∧
    (∀ c : Chan, (∀ d : Chan, d ≠ c → (s.chan d).playing = false) → s.mixed = t c) ∧
    (∀ c d : Chan, c ≠ d → (∀ e : Chan, e ≠ c → e ≠ d → (s.chan e).playing = false) →
      s.mixed = if t c + t d = 32768 then 32767 else t c + t d)

/-- R350, R351: an enabled TX sample step runs every channel's part, pushes the mix into TXF, counts, sets TX_DONE for the
messages that completed, and in loopback feeds the mix to every joined channel in the same step; a step that is not enabled
changes nothing. -/
def Obligations.TxSampleStep : Prop :=
  ∀ s : State, s.rst = false →
    (s.en = true → (s.txf.w - s.txf.viewR).toNat < 64 → ∃ t : State,
      runEvent .tx s = .next t ∧
      t = { s with
        chans := t.chans, irqStatus := t.irqStatus, txf := { s.txf with mem := t.txf.mem, w := s.txf.w + 1 },
        sampleCnt := s.sampleCnt + 1, rxSampleCnt := if s.loopback then s.rxSampleCnt + 1 else s.rxSampleCnt } ∧
      t.txf.entry s.epoch .txf s.txf.w = BitVec.ofInt 16 s.mixed ∧
      (∀ p : Ptr, p.toNat % 64 ≠ s.txf.w.toNat % 64 →
        t.txf.entry s.epoch .txf p = s.txf.entry s.epoch .txf p) ∧
      (s.loopback = false → ∀ c : Chan, t.chan c = (s.txSlot c).chan) ∧
      (s.loopback = true → ∀ c : Chan, t.chan c = (rxPart (BitVec.ofInt 16 s.mixed) (s.txSlot c).chan).chan) ∧
      (∀ c : Chan, t.irqStatus.getLsbD c.val = (s.irqStatus.getLsbD c.val || (s.txSlot c).done)) ∧
      (∀ c : Chan, t.irqStatus.getLsbD (4 + c.val) = (s.irqStatus.getLsbD (4 + c.val) ||
        (s.loopback && (rxPart (BitVec.ofInt 16 s.mixed) (s.txSlot c).chan).msg))) ∧
      (∀ c : Chan, t.irqStatus.getLsbD (8 + c.val) = (s.irqStatus.getLsbD (8 + c.val) ||
        (s.loopback && (rxPart (BitVec.ofInt 16 s.mixed) (s.txSlot c).chan).drop))) ∧
      ∀ b, 12 ≤ b → t.irqStatus.getLsbD b = s.irqStatus.getLsbD b) ∧
    (s.en = false ∨ 64 ≤ (s.txf.w - s.txf.viewR).toNat → runEvent .tx s = .next s)

/-- R54: the three writers of the phase bank, and what each writes. -/
def Obligations.PhaseBankWriters : Prop :=
  (∀ (e : Event) (s t : State) (c : Chan) (i : Lane), runEvent e s = .next t →
    (t.chan c).phase[i.val] ≠ (s.chan c).phase[i.val] →
      (e = .tx ∧ (s.chan c).joined = true ∧ (s.chan c).txBusy = true ∧
        i = laneOf (currentSymbol (s.activeByte c) (s.chan c)) ∧
        (t.chan c).phase[i.val] = (s.chan c).phase[i.val] + (s.chan c).ftw[i.val]) ∨
      (runsCommand e (.join c.val) ∧ (t.chan c).phase[i.val] = 0) ∨
      (e = .rstAssert ∧ (t.chan c).phase[i.val] = 0)) ∧
  (∀ (s : State) (c : Chan), Joinable s c → ∃ t : State, exec (.join c.val) s = .next t ∧
    ∀ i : Lane, (t.chan c).phase[i.val] = 0) ∧
  ∀ (c : Chan) (i : Lane), (State.reset.chan c).phase[i.val] = 0

/-! ### Correlation detection -/

/-- R300: each lane below K adds x · LUT[REF[31:22]] exactly, and advances its reference; the others stay 0; WIN_N and
CHUNK_CNT count; a full window is decided, and the frame advances after it. -/
def Obligations.CorrelatorAccumulatesExactly : Prop :=
  ∀ (x : Sample) (ch : Channel), ChannelOk ch → ch.joined = true →
    let u := correlate x ch
    (∀ i : Lane, i.val < 2 ^ ch.orderAct.toNat →
      u.rx.acc[i.val].toInt = ch.rx.acc[i.val].toInt + x.toInt * lut (ch.rx.ref[i.val].toNat / 2 ^ 22) ∧
      u.rx.ref[i.val].toNat = (ch.rx.ref[i.val].toNat + ch.ftw[i.val].toNat) % 2 ^ 32) ∧
    (∀ i : Lane, 2 ^ ch.orderAct.toNat ≤ i.val → u.rx.acc[i.val] = 0 ∧ u.rx.ref[i.val] = 0) ∧
    u.rx.winN.toNat = ch.rx.winN.toNat + 1 ∧ u.rx.chunkCnt.toNat = ch.rx.chunkCnt.toNat + 1 ∧
    u = { ch with
      rx := { ch.rx with acc := u.rx.acc, ref := u.rx.ref, winN := u.rx.winN, chunkCnt := u.rx.chunkCnt } } ∧
    (ch.rx.winN.toNat + 1 = ch.pAct.toNat → correlatorStep x ch = frameAdvance (symbolDecide u)) ∧
    (ch.rx.winN.toNat + 1 < ch.pAct.toNat → correlatorStep x ch = frameAdvance u)

/-- R301: the decided symbol is the lowest lane of largest magnitude; the decision restarts the window and leaves CHUNK_CNT
and FRAME_POS. -/
def Obligations.LowestLaneWinsTies : Prop :=
  ∀ ch : Channel, 1 ≤ ch.orderAct.toNat → ch.orderAct.toNat ≤ 4 →
    decideSymbol ch < 2 ^ ch.orderAct.toNat ∧
    (∀ i : Lane, i.val < 2 ^ ch.orderAct.toNat → ch.rx.acc[i.val].toInt.natAbs ≤ accMag ch (decideSymbol ch)) ∧
    (∀ i : Lane, i.val < decideSymbol ch → ch.rx.acc[i.val].toInt.natAbs < accMag ch (decideSymbol ch)) ∧
    (∀ i : Lane, (symbolDecide ch).rx.acc[i.val] = 0 ∧ (symbolDecide ch).rx.ref[i.val] = 0) ∧
    (symbolDecide ch).rx.winN = 0 ∧
    (symbolDecide ch).rx.asm = (assemble (decideSymbol ch) ch).rx.asm ∧
    (symbolDecide ch).rx.nbits = (assemble (decideSymbol ch) ch).rx.nbits ∧
    symbolDecide ch = { ch with
      rx := { (symbolDecide ch).rx with chunkCnt := ch.rx.chunkCnt, framePos := ch.rx.framePos } }

/-- R305: assembling a symbol appends its O bits to the stream, most significant first, and changes no other bit. -/
def Obligations.AssembleAppendsMsbFirst : Prop :=
  ∀ (y : Nat) (ch : Channel), ch.rx.nbits.toNat + ch.orderAct.toNat ≤ 256 →
    (∀ j, ch.rx.nbits.toNat ≤ j → asmBit ch.rx j = false) →
    let o := ch.orderAct.toNat
    let u := assemble y ch
    u.rx.nbits.toNat = ch.rx.nbits.toNat + o ∧
    (∀ t, t < o → asmBit u.rx (ch.rx.nbits.toNat + t) = decide (y / 2 ^ (o - 1 - t) % 2 = 1)) ∧
    (∀ j, j < ch.rx.nbits.toNat ∨ ch.rx.nbits.toNat + o ≤ j → asmBit u.rx j = asmBit ch.rx j) ∧
    u = { ch with rx := { ch.rx with asm := u.rx.asm, nbits := u.rx.nbits } }

/-- R320: `frame_advance` counts FRAME_POS and runs the chunk test only at frame ends, for every count of CHUNK_CNT; and a
correlator step, whose sample CHUNK_CNT has already counted when the frame advances (R300), flushes exactly when that sample
ends a frame and the chunk then holds at least 4·P samples. -/
def Obligations.ChunkTestAtFrameEnds : Prop :=
  (∀ ch : Channel,
    (ch.rx.framePos.toNat + 1 < ch.frameAct.toNat → ∃ u : RxSlot, frameAdvance ch = u ∧ u.msg = false ∧ u.drop = false ∧
      u.chan.rx.framePos.toNat = ch.rx.framePos.toNat + 1 ∧
      u.chan = { ch with rx := { ch.rx with framePos := u.chan.rx.framePos } }) ∧
    (ch.rx.framePos.toNat + 1 = ch.frameAct.toNat → ch.rx.chunkCnt.toNat < 4 * ch.pAct.toNat →
      frameAdvance ch = { chan := { ch with rx := { ch.rx with framePos := 0 } }, msg := false, drop := false }) ∧
    (ch.rx.framePos.toNat + 1 = ch.frameAct.toNat → 4 * ch.pAct.toNat ≤ ch.rx.chunkCnt.toNat →
      frameAdvance ch = flush { ch with rx := { ch.rx with framePos := 0 } })) ∧
  ∀ (x : Sample) (ch : Channel), ChannelOk ch → ch.joined = true →
    let u := correlatorStep x ch
    let frameEnds := ch.rx.framePos.toNat + 1 = ch.frameAct.toNat
    let chunkFull := 4 * ch.pAct.toNat ≤ ch.rx.chunkCnt.toNat + 1
    ((u.msg = true ∨ u.drop = true) ↔ frameEnds ∧ chunkFull) ∧
    (frameEnds → u.chan.rx.framePos.toNat = 0) ∧ (¬frameEnds → u.chan.rx.framePos.toNat = ch.rx.framePos.toNat + 1) ∧
    (frameEnds ∧ chunkFull → u.chan.rx = RxState.clear) ∧
    (¬(frameEnds ∧ chunkFull) → u.chan.rx.chunkCnt.toNat = ch.rx.chunkCnt.toNat + 1)

/-- R323: a flush appends the message of ceil(NBITS / 8) bytes, or drops it when ten are queued, with the count saturating;
it ends in rx_clear and touches nothing else of the channel. -/
def Obligations.FlushQueuesOrDropsNewest : Prop :=
  ∀ ch : Channel,
    (ch.rxq.length < 10 →
      flush ch =
        { chan := { ch with
            rxq := ch.rxq ++ [ch.rx.asm.toList.take ((ch.rx.nbits.toNat + 7) / 8)], rx := RxState.clear },
          msg := true, drop := false }) ∧
    (10 ≤ ch.rxq.length →
      (flush ch).chan = { ch with rxqDrops := (flush ch).chan.rxqDrops, rx := RxState.clear } ∧
      (flush ch).chan.rxqDrops.toNat = min (ch.rxqDrops.toNat + 1) 0xFFFF ∧
      (flush ch).msg = false ∧ (flush ch).drop = true)

/-- R69: what rx_clear clears, and that it touches nothing else. -/
def Obligations.RxClearClearsReceiveState : Prop :=
  ∀ ch : Channel,
    let u := ch.rxClear
    (∀ i : Lane, u.rx.acc[i.val] = 0 ∧ u.rx.ref[i.val] = 0) ∧ u.rx.winN = 0 ∧ u.rx.chunkCnt = 0 ∧ u.rx.framePos = 0 ∧
    (∀ k : Fin 32, u.rx.asm[k.val] = 0) ∧ u.rx.nbits = 0 ∧ u = { ch with rx := u.rx }

/-- R355, R356: an enabled RX sample step pops RXF's head and gives it to every joined channel, and to no other; a step
that is not enabled changes nothing. -/
def Obligations.RxSampleStep : Prop :=
  ∀ s : State, s.rst = false →
    (s.en = true → s.loopback = false → 0 < (s.rxf.viewW - s.rxf.r).toNat → ∃ t : State,
      runEvent .rx s = .next t ∧
      t = { s with
        chans := t.chans, irqStatus := t.irqStatus, rxf := { s.rxf with r := s.rxf.r + 1 },
        rxSampleCnt := s.rxSampleCnt + 1 } ∧
      (∀ c : Chan, (s.chan c).joined = true →
        t.chan c = (correlatorStep (s.rxf.entry s.epoch .rxf s.rxf.r) (s.chan c)).chan) ∧
      (∀ c : Chan, (s.chan c).joined = false → t.chan c = s.chan c) ∧
      (∀ c : Chan, t.irqStatus.getLsbD (4 + c.val) = (s.irqStatus.getLsbD (4 + c.val) ||
        (rxPart (s.rxf.entry s.epoch .rxf s.rxf.r) (s.chan c)).msg)) ∧
      (∀ c : Chan, t.irqStatus.getLsbD (8 + c.val) = (s.irqStatus.getLsbD (8 + c.val) ||
        (rxPart (s.rxf.entry s.epoch .rxf s.rxf.r) (s.chan c)).drop)) ∧
      ∀ b, b < 4 ∨ 12 ≤ b → t.irqStatus.getLsbD b = s.irqStatus.getLsbD b) ∧
    (s.en = false ∨ s.loopback = true ∨ s.rxf.viewW = s.rxf.r → runEvent .rx s = .next s)

/-- R326: the receive side depends on the received samples and the engine alone, never on the transmit side. -/
def Obligations.ReceiveIndependentOfTransmit : Prop :=
  ∀ (xs : List Sample) (a b : Channel), SameReceiver a b → SameReceiver (receiveAll a xs) (receiveAll b xs)

/-- R324: while a joined channel receives silence from a cleared receive state, every message it queues is all zero bytes. -/
def Obligations.SilenceDecodesToZeroBytes : Prop :=
  ∀ (n : Nat) (ch : Channel), ChannelOk ch → ch.joined = true → ch.rx = RxState.clear → ch.rxq = [] →
    ∀ m ∈ (receiveAll ch (List.replicate n 0)).rxq, 1 ≤ m.length ∧ ∀ b ∈ m, b = 0

/-! ### Invariants -/

/-- R70: the channel invariant holds after reset, every step keeps it, and it gives R70's five facts of every joined
channel. -/
def Obligations.StepKeepsChannelInvariant : Prop :=
  ChannelsOk State.reset ∧
  (∀ s t : State, ChannelsOk s → step s = .next t → ChannelsOk t) ∧
  ∀ (s : State) (c : Chan), ChannelsOk s → (s.chan c).joined = true →
    let ch := s.chan c
    (∀ i : Lane, i.val < 2 ^ ch.orderAct.toNat →
      ch.rx.ref[i.val].toNat = ch.rx.winN.toNat * ch.ftw[i.val].toNat % 2 ^ 32) ∧
    (∀ i : Lane, ch.rx.acc[i.val].toInt.natAbs ≤ ch.rx.winN.toNat * 32768 * 16384 ∧
      ch.rx.acc[i.val].toInt.natAbs < 2 ^ 45) ∧
    ch.rx.nbits.toNat = ch.orderAct.toNat * (ch.rx.chunkCnt.toNat / ch.pAct.toNat) ∧
    ch.rx.chunkCnt.toNat ≤ 4 * ch.pAct.toNat - 1 + ch.frameAct.toNat ∧ ch.rx.chunkCnt.toNat < 2 ^ 19 ∧
    ch.rx.nbits.toNat ≤ 256

/-- R381, R386: every step keeps the FIFO bounds, and no entry is read before it is written. -/
def Obligations.StepKeepsFifoInvariant : Prop := ∀ s t : State, FifosOk s → step s = .next t → FifosOk t

/-- Every step keeps every memory in its canonical form. -/
def Obligations.StepKeepsMemoryCanonical : Prop := ∀ s t : State, MemoryOk s → step s = .next t → MemoryOk t

/-- Every step keeps the reserved bits of IRQ_STATUS and IRQ_ENABLE at 0, and CMD_RESULT's code among those of R421. -/
def Obligations.StepKeepsFlagAndResultFields : Prop :=
  ∀ s t : State, FlagsOk s ∧ ResultOk s → step s = .next t → FlagsOk t ∧ ResultOk t

/-- All the invariants hold right after reset. -/
def Obligations.ResetMeetsInvariants : Prop :=
  ChannelsOk State.reset ∧ FifosOk State.reset ∧ MemoryOk State.reset ∧ FlagsOk State.reset ∧ ResultOk State.reset

/-! ### FIFOs and the domain crossing -/

/-- R385, R386, R122: a FIFO is a queue. A push appends the sample, a pop removes the oldest and that is the entry at R, and a
discard removes what the reader sees. -/
def Obligations.FifoIsAQueue : Prop :=
  ∀ (epoch : Nat) (id : FifoId) (f : Fifo), FifoLag f →
    (∀ v : Sample, f.writerLevel < 64 → contents epoch id (f.push v) = contents epoch id f ++ [v]) ∧
    (0 < f.readerLevel → contents epoch id f = f.entry epoch id f.r :: contents epoch id f.advance) ∧
    contents epoch id f.discard = (contents epoch id f).drop f.readerLevel

/-- R387: which steps write each pointer and each FIFO memory, and that the host cannot read the memories. -/
def Obligations.FifoOwnership : Prop :=
  (∀ (e : Event) (s t : State), runEvent e s = .next t → e ≠ .rstAssert →
    (t.txf.w ≠ s.txf.w ∨ t.txf.mem ≠ s.txf.mem → e = .tx) ∧
    (t.txf.r ≠ s.txf.r → e = .dac) ∧
    (t.rxf.w ≠ s.rxf.w ∨ t.rxf.mem ≠ s.rxf.mem → ∃ x, e = .adc x) ∧
    (t.rxf.r ≠ s.rxf.r → e = .rx ∨ runsCommand e .rxfDiscard)) ∧
  ∀ (s : State) (off : Int) (m m' : List (Nat × Sample)),
    readAt { s with txf := { s.txf with mem := m }, rxf := { s.rxf with mem := m' } } off = readAt s off

/-- R390 and R391: the DAC step emits the head of TXF or silence, an empty FIFO being an underrun only while EN_A is 1; the
ADC step, for any captured sample, discards, pushes, or drops the newest sample and records an overflow. -/
def Obligations.AudioStrobeSteps : Prop :=
  ∀ s : State, s.rst = false →
    (s.txf.viewW = s.txf.r →
      runEvent .dac s = .next { s with dacStream := 0 :: s.dacStream, undPend := s.undPend || s.enA }) ∧
    (s.txf.viewW ≠ s.txf.r →
      runEvent .dac s =
        .next { s with
          dacStream := s.txf.entry s.epoch .txf s.txf.r :: s.dacStream, txf := { s.txf with r := s.txf.r + 1 } }) ∧
    ∀ x : Sample,
      (s.rxenA = false → runEvent (.adc x) s = .next s) ∧
      (s.rxenA = true → (s.rxf.w - s.rxf.viewR).toNat ≠ 64 → ∃ t : State,
        runEvent (.adc x) s = .next t ∧
        t = { s with rxf := { s.rxf with mem := t.rxf.mem, w := s.rxf.w + 1 } } ∧
        t.rxf.entry s.epoch .rxf s.rxf.w = x ∧
        ∀ p : Ptr, p.toNat % 64 ≠ s.rxf.w.toNat % 64 → t.rxf.entry s.epoch .rxf p = s.rxf.entry s.epoch .rxf p) ∧
      (s.rxenA = true → (s.rxf.w - s.rxf.viewR).toNat = 64 → runEvent (.adc x) s = .next { s with ovfPend := true })

/-- R392: a pointer synchronisation step delivers an admitted view value, every admitted value can be delivered, and
nothing else changes. -/
def Obligations.PointerSyncDeliversAdmittedView : Prop :=
  ∀ (s : State) (id : FifoId) (v : Ptr), s.rst = false →
    let f := s.fifo id
    (∃ u : Ptr, runEvent (.syncW id v) s = .next (s.setFifo id { f with viewW := u }) ∧
      (u - f.viewW).toNat ≤ (f.w - f.viewW).toNat ∧ ((v - f.viewW).toNat ≤ (f.w - f.viewW).toNat → u = v)) ∧
    (∃ u : Ptr, runEvent (.syncR id v) s = .next (s.setFifo id { f with viewR := u }) ∧
      (u - f.viewR).toNat ≤ (f.r - f.viewR).toNat ∧ ((v - f.viewR).toNat ≤ (f.r - f.viewR).toNat → u = v))

/-- R393 and R394: the enable and event synchronisation steps. -/
def Obligations.EnableAndEventSync : Prop :=
  ∀ s : State, s.rst = false →
    runEvent .syncEnDac s = .next { s with enA := s.en } ∧
    runEvent .syncEnAdc s = .next { s with rxenA := s.en && !s.loopback } ∧
    (s.undPend = true → runEvent .syncUnd s = .next { s with undPend := false, irqStatus := s.irqStatus ||| bit 16 }) ∧
    (s.undPend = false → runEvent .syncUnd s = .next s) ∧
    (s.ovfPend = true → runEvent .syncOvf s = .next { s with ovfPend := false, irqStatus := s.irqStatus ||| bit 17 }) ∧
    (s.ovfPend = false → runEvent .syncOvf s = .next s)

/-- R397: on a fair schedule an underrun or overflow that waits to cross is reported: sooner or later its interrupt bit is
set, unless a reset comes first. -/
def Obligations.FairRunsReportPendingEvents : Prop :=
  ∀ (sched : Nat → Event) (st : Nat → State), IsRun sched st → Fair sched st →
    ∀ n, (st n).rst = false →
      ((st n).undPend = true → ∃ m, n ≤ m ∧ (sched m = .rstAssert ∨ (st (m + 1)).irqStatus.getLsbD 16 = true)) ∧
      ((st n).ovfPend = true → ∃ m, n ≤ m ∧ (sched m = .rstAssert ∨ (st (m + 1)).irqStatus.getLsbD 17 = true))

/-! ### The register space -/

/-- R102: a read in the window returns the value of the register or window word it selects, the same for every offset of
one word, changes nothing of the block, and a second read at once returns the same value. What that value is, register by
register, the statements about `readAt` say. -/
def Obligations.ReadsHaveNoSideEffect : Prop :=
  ∀ (s : State) (off : Int), s.rst = false → 0 ≤ off → off < 4096 →
    let v : Word := readAt s off
    (∀ off' : Int, off' / 4 = off / 4 →
      runEvent (.host (.read off')) s = .next { s with readStream := v :: s.readStream }) ∧
    runEvent (.host (.read off)) { s with readStream := v :: s.readStream } =
      .next { s with readStream := v :: v :: s.readStream }

/-- R106, R105: the read-write registers store their defined bits and read them back; such a write replaces the one field
of the state that the register names and nothing else; writes to read-only registers and reserved offsets change nothing,
and reserved offsets read 0. R103, R107: a write at any offset of a word, misaligned ones too, is the write at any other
offset of that word, of every register and window. -/
def Obligations.RegisterAccessTypes : Prop :=
  ∀ (s : State) (v : Word), s.rst = false →
    (∀ p ∈ rwRegisters, ∃ t : State, runEvent (.host (.write p.1 v)) s = .next t ∧ readAt t p.1 = v &&& p.2 ∧
      ∀ q ∈ rwRegisters, q.1 ≠ p.1 → readAt t q.1 = readAt s q.1) ∧
    runEvent (.host (.write 0x008 v)) s = .next { s with en := v.getLsbD 0, loopback := v.getLsbD 1 } ∧
    runEvent (.host (.write 0x010 v)) s = .next { s with sampleRate := v } ∧
    runEvent (.host (.write 0x020 v)) s = .next { s with irqEnable := v &&& 0x70FFF } ∧
    (∀ c : Chan,
      runEvent (.host (.write (chb c) v)) s = .next (s.setChan c { s.chan c with baseFreq := v }) ∧
      runEvent (.host (.write (chb c + 0x04) v)) s = .next (s.setChan c { s.chan c with freqSpacing := v }) ∧
      runEvent (.host (.write (chb c + 0x08) v)) s = .next (s.setChan c { s.chan c with symbolRate := v }) ∧
      runEvent (.host (.write (chb c + 0x0C) v)) s = .next (s.setChan c { s.chan c with order := v.extractLsb' 0 3 }) ∧
      runEvent (.host (.write (chb c + 0x10) v)) s = .next (s.setChan c { s.chan c with frameLen := v.extractLsb' 0 16 }) ∧
      runEvent (.host (.write (chb c + 0x14) v)) s = .next (s.setChan c { s.chan c with txLen := v.extractLsb' 0 9 }) ∧
      runEvent (.host (.write (chb c + 0x24) v)) s = .next (s.setChan c { s.chan c with phaseSel := v.extractLsb' 0 4 })) ∧
    (∀ off ∈ roRegisters, runEvent (.host (.write off v)) s = .next s) ∧
    (∀ off : Int, reservedOffset off → runEvent (.host (.write off v)) s = .next s ∧ readAt s off = 0) ∧
    readAt s 0x014 = 0 ∧
    ∀ off off' : Int, 0 ≤ off → off < 4096 → off' / 4 = off / 4 →
      runEvent (.host (.write off' v)) s = runEvent (.host (.write off v)) s

/-- R34: STATUS is computed from the views, JOINED and TX_BUSY. -/
def Obligations.StatusReadsViews : Prop :=
  ∀ s : State,
    (readAt s 0x00C).toNat % 128 = (s.txf.w - s.txf.viewR).toNat ∧
    (readAt s 0x00C).toNat / 2 ^ 8 % 128 = (s.rxf.viewW - s.rxf.r).toNat ∧
    (∀ c : Chan, (readAt s 0x00C).getLsbD (16 + c.val) = (s.chan c).joined) ∧
    (∀ c : Chan, (readAt s 0x00C).getLsbD (20 + c.val) = (s.chan c).txBusy) ∧
    (readAt s 0x00C).getLsbD 7 = false ∧ (readAt s 0x00C).getLsbD 15 = false ∧ (readAt s 0x00C).toNat < 2 ^ 24 ∧
    readAt State.reset 0x00C = 0

/-- R45, R46, R47, R49: the computed registers of a channel, which a write leaves and which read 0 after reset; and R48's
two read-back registers. -/
def Obligations.ChannelRegistersRead : Prop :=
  ∀ (s : State) (c : Chan), QueueOk (s.chan c) →
    let ch := s.chan c
    (readAt s (chb c + 0x18)).toNat =
      ch.joined.toNat + 2 * ch.txBusy.toNat + 4 * ch.nyqWarn.toNat + 8 * ch.stg.toNat + 16 * ch.rxq.length +
        256 * (ch.rxq.headD []).length ∧
    (readAt s (chb c + 0x1C)).toNat = 2 ^ 16 * ch.orderAct.toNat + ch.pAct.toNat ∧
    (readAt s (chb c + 0x20)).toNat = ch.rxqDrops.toNat ∧
    readAt s (chb c + 0x28) = ch.phase[ch.phaseSel.toNat]?.getD 0 ∧
    readAt s (chb c + 0x2C) = ch.ftw[ch.phaseSel.toNat]?.getD 0 ∧
    (readAt s (chb c + 0x30)).toNat = 2 ^ 16 * ch.txSamp.toNat + ch.txSym.toNat ∧
    (readAt s (chb c + 0x34)).toNat = 2 ^ 16 * ch.rx.nbits.toNat + ch.rx.winN.toNat ∧
    (readAt s (chb c + 0x38)).toNat = ch.rx.chunkCnt.toNat ∧
    (readAt s (chb c + 0x3C)).toNat = ch.rx.framePos.toNat ∧
    ∀ off ∈ [0x18, 0x1C, 0x20, 0x28, 0x2C, 0x30, 0x34, 0x38, 0x3C],
      readAt State.reset (chb c + off) = 0 ∧
      ∀ v : Word, s.rst = false → runEvent (.host (.write (chb c + off) v)) s = .next s

/-- R120: the staging window reads the current staging bank, four bytes a word, little-endian; a write of word j stores its
four bytes there, and changes no other byte of any bank and nothing else; the window then reads the word back. -/
def Obligations.StagingWindowWrites : Prop :=
  ∀ (s : State) (c : Chan) (j : Fin 64) (v : Word), s.rst = false →
    let off : Int := 0x800 + 0x100 * (c.val : Int) + 4 * (j.val : Int)
    (∀ i : Fin 4, (readAt s off).extractLsb' (8 * i.val) 8 = s.txb c (s.chan c).stg (BitVec.ofNat 8 (4 * j.val + i.val))) ∧
    ∃ t : State, runEvent (.host (.write off v)) s = .next t ∧
      (∀ i : Fin 4, t.txb c (s.chan c).stg (BitVec.ofNat 8 (4 * j.val + i.val)) = v.extractLsb' (8 * i.val) 8) ∧
      (∀ (d : Chan) (bank : Bool) (k : Byte), d ≠ c ∨ bank ≠ (s.chan c).stg ∨ k.toNat / 4 ≠ j.val →
        t.txb d bank k = s.txb d bank k) ∧
      t = s.setChan c { s.chan c with txb := (t.chan c).txb } ∧
      readAt t off = v

/-- R121: the head window shows the bytes of the head message, little-endian, zeros past its end and when the queue is
empty, and a write to it has no effect; the head of a queue that is not empty changes only by RXQ_POP, JOIN, LEAVE or reset. -/
def Obligations.HeadWindowShowsHeadMessage : Prop :=
  (∀ (s : State) (c : Chan) (j : Fin 8) (v : Word), s.rst = false →
    let off : Int := 0x400 + 0x20 * (c.val : Int) + 4 * (j.val : Int)
    ((s.chan c).rxq = [] → readAt s off = 0) ∧
    (∀ (m : List Byte) (rest : List (List Byte)), (s.chan c).rxq = m :: rest →
      ∀ i : Fin 4, (readAt s off).extractLsb' (8 * i.val) 8 =
        if 4 * j.val + i.val < m.length then m.getD (4 * j.val + i.val) 0 else 0) ∧
    runEvent (.host (.write off v)) s = .next s) ∧
  ∀ (e : Event) (s t : State) (c : Chan), runEvent e s = .next t → e ≠ .rstAssert → ¬runsCommand e (.rxqPop c.val) →
    ¬runsCommand e (.join c.val) → ¬runsCommand e (.leave c.val) → (s.chan c).rxq ≠ [] →
    (t.chan c).rxq.head? = (s.chan c).rxq.head?

/-! ### Interrupts -/

/-- R38, R430, R431: a W1C write clears exactly the defined bits written as 1; no step but that write and reset clears a bit;
and each bit is set only by the steps that R430 names for it. -/
def Obligations.InterruptBitsStickyUntilCleared : Prop :=
  (∀ (s : State) (v : Word), s.rst = false → ∃ t : State,
    runEvent (.host (.write 0x01C v)) s = .next t ∧ t = { s with irqStatus := t.irqStatus } ∧
    ∀ b : Nat, t.irqStatus.getLsbD b = (s.irqStatus.getLsbD b && !(v.getLsbD b && irqMask.getLsbD b))) ∧
  ∀ (e : Event) (s t : State) (b : Nat), runEvent e s = .next t → e ≠ .rstAssert →
    (s.irqStatus.getLsbD b = true → t.irqStatus.getLsbD b = false →
      ∃ off v, e = .host (.write off v) ∧ 0x01C ≤ off ∧ off < 0x020 ∧ v.getLsbD b = true) ∧
    (s.irqStatus.getLsbD b = false → t.irqStatus.getLsbD b = true →
      (b < 4 ∧ (e = .tx ∨ runsCommand e (.send b) ∨ runsCommand e .broadcast)) ∨
      (4 ≤ b ∧ b < 12 ∧ (e = .tx ∨ e = .rx)) ∨
      (b = 16 ∧ e = .syncUnd) ∨ (b = 17 ∧ e = .syncOvf) ∨ (b = 18 ∧ ∃ w, cmdWritten e = some w))

/-- R432: irq is the OR over the defined bits of IRQ_STATUS[b] ∧ IRQ_ENABLE[b], and setting an enable bit over a pending one
raises it at once. -/
def Obligations.IrqOutputIsOrOfEnabledBits : Prop :=
  ∀ s : State, FlagsOk s →
    (s.irq = true ↔ ∃ b, b < 32 ∧ s.irqStatus.getLsbD b = true ∧ s.irqEnable.getLsbD b = true) ∧
    ∀ (b : Nat) (v : Word), s.rst = false → s.irqStatus.getLsbD b = true → v.getLsbD b = true →
      ∃ t : State, runEvent (.host (.write 0x020 v)) s = .next t ∧ t.irq = true

/-! ### Whole-machine rules -/

/-- R420: a step never faults, and it is refused only for an access outside the window, a narrow access or a reset of one
domain; no command word, register access, configuration or sample stops the block. And those three are refused, under their
names (R104, R107 with U16, R471 with U18): the accesses with rst released, the reset of one domain in every state (log
entries 12 to 14). -/
def Obligations.OnlyForeignStimuliStopTheBlock : Prop :=
  (∀ (e : Event) (s : State),
    (∃ t, runEvent e s = .next t) ∨
    ((∃ off, e = .host (.read off) ∧ ¬(0 ≤ off ∧ off < 4096) ∧ runEvent e s = .refused (.outsideWindow off)) ∨
     (∃ off v, e = .host (.write off v) ∧ ¬(0 ≤ off ∧ off < 4096) ∧ runEvent e s = .refused (.outsideWindow off)) ∨
     (∃ off n, e = .host (.narrow off n) ∧ runEvent e s = .refused (.narrowAccess n)) ∨
     ∃ d, e = .rstOneDomain d ∧ runEvent e s = .refused (.partialReset d))) ∧
  (∀ (s : State) (off : Int) (v : Word), s.rst = false → ¬(0 ≤ off ∧ off < 4096) →
    runEvent (.host (.read off)) s = .refused (.outsideWindow off) ∧
    runEvent (.host (.write off v)) s = .refused (.outsideWindow off)) ∧
  (∀ (s : State) (off : Int) (n : Nat), s.rst = false → runEvent (.host (.narrow off n)) s = .refused (.narrowAccess n)) ∧
  ∀ (s : State) (d : Domain), runEvent (.rstOneDomain d) s = .refused (.partialReset d)

/-- R51, R52, R71, R480: only JOIN of that channel and reset change what JOIN latches. -/
def Obligations.ConfigurationLatchedAtJoin : Prop :=
  ∀ (e : Event) (s t : State) (c : Chan), runEvent e s = .next t → e ≠ .rstAssert → ¬runsCommand e (.join c.val) →
    (t.chan c).orderAct = (s.chan c).orderAct ∧ (t.chan c).pAct = (s.chan c).pAct ∧
    (t.chan c).frameAct = (s.chan c).frameAct ∧ (t.chan c).ftw = (s.chan c).ftw ∧
    (t.chan c).nyqWarn = (s.chan c).nyqWarn

/-- R40: SAMPLE_CNT counts TX sample steps and RX_SAMPLE_CNT counts RX sample steps, the fused one included; no other step
but reset changes either; both are 0 after reset, and their registers show them. -/
def Obligations.SampleCountersCountSteps : Prop :=
  State.reset.sampleCnt = 0 ∧ State.reset.rxSampleCnt = 0 ∧
  (∀ s : State, readAt s 0x024 = s.sampleCnt ∧ readAt s 0x028 = s.rxSampleCnt) ∧
  ∀ (e : Event) (s t : State), runEvent e s = .next t → e ≠ .rstAssert →
    t.sampleCnt =
      (if e = .tx ∧ s.rst = false ∧ s.txEnabled = true then s.sampleCnt + 1 else s.sampleCnt) ∧
    t.rxSampleCnt =
      (if (e = .tx ∧ s.rst = false ∧ s.txEnabled = true ∧ s.loopback = true) ∨
          (e = .rx ∧ s.rst = false ∧ s.rxEnabled = true)
        then s.rxSampleCnt + 1 else s.rxSampleCnt)

/-- R33, R455: while EN is 0, no step but the host's and reset moves any channel, either sample counter, CMD_RESULT, CTRL,
SAMPLE_RATE or IRQ_ENABLE. SYNC steps still occur (R110): they may set IRQ_STATUS bits 16 and 17 (R394) and move the FIFO
views (R392), of which the statement says nothing. -/
def Obligations.DisabledCoreKeepsItsState : Prop :=
  ∀ (e : Event) (s t : State), runEvent e s = .next t → s.en = false → e ≠ .rstAssert → (∀ op, e ≠ .host op) →
    t.chans = s.chans ∧ t.sampleCnt = s.sampleCnt ∧ t.rxSampleCnt = s.rxSampleCnt ∧ t.cmdResult = s.cmdResult ∧
    t.en = s.en ∧ t.loopback = s.loopback ∧ t.sampleRate = s.sampleRate ∧ t.irqEnable = s.irqEnable

/-- R470: what every register reads after reset, and the value of every state element that no register shows. -/
def Obligations.ResetRegisterValues : Prop :=
  readAt State.reset 0x000 = 0x46534B01 ∧ readAt State.reset 0x004 = 0x2066AA44 ∧
  (∀ w : Nat, 2 ≤ w → w < 512 → readAt State.reset (4 * (w : Int)) = 0) ∧
  State.reset.en = false ∧ State.reset.loopback = false ∧ State.reset.irq = false ∧
  State.reset.txEnabled = false ∧ State.reset.rxEnabled = false ∧ State.reset.rst = false ∧
  State.reset.enA = false ∧ State.reset.rxenA = false ∧ State.reset.undPend = false ∧ State.reset.ovfPend = false ∧
  (∀ id : FifoId, (State.reset.fifo id).w = 0 ∧ (State.reset.fifo id).r = 0 ∧ (State.reset.fifo id).viewR = 0 ∧
    (State.reset.fifo id).viewW = 0) ∧
  ∀ c : Chan,
    let ch := State.reset.chan c
    ch.joined = false ∧ ch.orderAct = 0 ∧ ch.pAct = 0 ∧ ch.frameAct = 0 ∧ ch.nyqWarn = false ∧
    (∀ i : Lane, ch.ftw[i.val] = 0 ∧ ch.phase[i.val] = 0) ∧
    ch.stg = false ∧ ch.actLen = 0 ∧ ch.txBusy = false ∧ ch.txSym = 0 ∧ ch.txSamp = 0 ∧
    (∀ i : Lane, ch.rx.acc[i.val] = 0 ∧ ch.rx.ref[i.val] = 0) ∧ (∀ k : Fin 32, ch.rx.asm[k.val] = 0) ∧
    ch.rx.winN = 0 ∧ ch.rx.chunkCnt = 0 ∧ ch.rx.framePos = 0 ∧ ch.rx.nbits = 0 ∧ ch.rxq = [] ∧ ch.rxqDrops = 0

/-- R470, R472: asserting rst puts every register at its reset value from any state; while it is asserted no agent's step
occurs; releasing it lets steps occur again. That the reset values stand from the assertion on is the model's reading (log
entry 11), and so is that the TXB bytes are forgotten (log entry 7). The streams, the schedule and its counter `tick` are the
model's own and stay (log entries 1, 9, 10); the model's counter `epoch` may move (log entry 10). -/
def Obligations.ResetPinDiscardsState : Prop :=
  ∀ s : State, ∃ t : State,
    runEvent .rstAssert s = .next t ∧
    t = { State.reset with
      rst := true, epoch := t.epoch, tick := s.tick, pending := s.pending, dacStream := s.dacStream,
      readStream := s.readStream } ∧
    (∀ e : Event, pinEvent e = false → runEvent e t = .next t) ∧
    runEvent .rstRelease t = .next { t with rst := false }
end

