-- ==== Sys2Proof/Laws/State.lean ====
section
/-! SUPPORT. One lemma per field per named update of State and of Channel, so that no later proof unfolds an update. -/

namespace Sys2Proof.Machine

/-! ### State.setChan -/

@[simp] theorem setChan_en (s : State) (c : Chan) (ch : Channel) : (s.setChan c ch).en = s.en := rfl
@[simp] theorem setChan_loopback (s : State) (c : Chan) (ch : Channel) : (s.setChan c ch).loopback = s.loopback := rfl
@[simp] theorem setChan_sampleRate (s : State) (c : Chan) (ch : Channel) : (s.setChan c ch).sampleRate = s.sampleRate := rfl
@[simp] theorem setChan_cmdResult (s : State) (c : Chan) (ch : Channel) : (s.setChan c ch).cmdResult = s.cmdResult := rfl
@[simp] theorem setChan_irqStatus (s : State) (c : Chan) (ch : Channel) : (s.setChan c ch).irqStatus = s.irqStatus := rfl
@[simp] theorem setChan_irqEnable (s : State) (c : Chan) (ch : Channel) : (s.setChan c ch).irqEnable = s.irqEnable := rfl
@[simp] theorem setChan_sampleCnt (s : State) (c : Chan) (ch : Channel) : (s.setChan c ch).sampleCnt = s.sampleCnt := rfl
@[simp] theorem setChan_rxSampleCnt (s : State) (c : Chan) (ch : Channel) : (s.setChan c ch).rxSampleCnt = s.rxSampleCnt := rfl
@[simp] theorem setChan_chans (s : State) (c : Chan) (ch : Channel) : (s.setChan c ch).chans = s.chans.set c.val ch := rfl
@[simp] theorem setChan_txf (s : State) (c : Chan) (ch : Channel) : (s.setChan c ch).txf = s.txf := rfl
@[simp] theorem setChan_rxf (s : State) (c : Chan) (ch : Channel) : (s.setChan c ch).rxf = s.rxf := rfl
@[simp] theorem setChan_enA (s : State) (c : Chan) (ch : Channel) : (s.setChan c ch).enA = s.enA := rfl
@[simp] theorem setChan_rxenA (s : State) (c : Chan) (ch : Channel) : (s.setChan c ch).rxenA = s.rxenA := rfl
@[simp] theorem setChan_undPend (s : State) (c : Chan) (ch : Channel) : (s.setChan c ch).undPend = s.undPend := rfl
@[simp] theorem setChan_ovfPend (s : State) (c : Chan) (ch : Channel) : (s.setChan c ch).ovfPend = s.ovfPend := rfl
@[simp] theorem setChan_rst (s : State) (c : Chan) (ch : Channel) : (s.setChan c ch).rst = s.rst := rfl
@[simp] theorem setChan_epoch (s : State) (c : Chan) (ch : Channel) : (s.setChan c ch).epoch = s.epoch := rfl
@[simp] theorem setChan_tick (s : State) (c : Chan) (ch : Channel) : (s.setChan c ch).tick = s.tick := rfl
@[simp] theorem setChan_pending (s : State) (c : Chan) (ch : Channel) : (s.setChan c ch).pending = s.pending := rfl
@[simp] theorem setChan_dacStream (s : State) (c : Chan) (ch : Channel) : (s.setChan c ch).dacStream = s.dacStream := rfl
@[simp] theorem setChan_readStream (s : State) (c : Chan) (ch : Channel) : (s.setChan c ch).readStream = s.readStream := rfl

/-! ### State.setChans -/

@[simp] theorem setChans_en (s : State) (f : Chan → Channel) : (s.setChans f).en = s.en := rfl
@[simp] theorem setChans_loopback (s : State) (f : Chan → Channel) : (s.setChans f).loopback = s.loopback := rfl
@[simp] theorem setChans_sampleRate (s : State) (f : Chan → Channel) : (s.setChans f).sampleRate = s.sampleRate := rfl
@[simp] theorem setChans_cmdResult (s : State) (f : Chan → Channel) : (s.setChans f).cmdResult = s.cmdResult := rfl
@[simp] theorem setChans_irqStatus (s : State) (f : Chan → Channel) : (s.setChans f).irqStatus = s.irqStatus := rfl
@[simp] theorem setChans_irqEnable (s : State) (f : Chan → Channel) : (s.setChans f).irqEnable = s.irqEnable := rfl
@[simp] theorem setChans_sampleCnt (s : State) (f : Chan → Channel) : (s.setChans f).sampleCnt = s.sampleCnt := rfl
@[simp] theorem setChans_rxSampleCnt (s : State) (f : Chan → Channel) : (s.setChans f).rxSampleCnt = s.rxSampleCnt := rfl
@[simp] theorem setChans_chans (s : State) (f : Chan → Channel) : (s.setChans f).chans = Vector.ofFn f := rfl
@[simp] theorem setChans_txf (s : State) (f : Chan → Channel) : (s.setChans f).txf = s.txf := rfl
@[simp] theorem setChans_rxf (s : State) (f : Chan → Channel) : (s.setChans f).rxf = s.rxf := rfl
@[simp] theorem setChans_enA (s : State) (f : Chan → Channel) : (s.setChans f).enA = s.enA := rfl
@[simp] theorem setChans_rxenA (s : State) (f : Chan → Channel) : (s.setChans f).rxenA = s.rxenA := rfl
@[simp] theorem setChans_undPend (s : State) (f : Chan → Channel) : (s.setChans f).undPend = s.undPend := rfl
@[simp] theorem setChans_ovfPend (s : State) (f : Chan → Channel) : (s.setChans f).ovfPend = s.ovfPend := rfl
@[simp] theorem setChans_rst (s : State) (f : Chan → Channel) : (s.setChans f).rst = s.rst := rfl
@[simp] theorem setChans_epoch (s : State) (f : Chan → Channel) : (s.setChans f).epoch = s.epoch := rfl
@[simp] theorem setChans_tick (s : State) (f : Chan → Channel) : (s.setChans f).tick = s.tick := rfl
@[simp] theorem setChans_pending (s : State) (f : Chan → Channel) : (s.setChans f).pending = s.pending := rfl
@[simp] theorem setChans_dacStream (s : State) (f : Chan → Channel) : (s.setChans f).dacStream = s.dacStream := rfl
@[simp] theorem setChans_readStream (s : State) (f : Chan → Channel) : (s.setChans f).readStream = s.readStream := rfl

/-! ### State.raise -/

@[simp] theorem raise_en (s : State) (b : Word) : (s.raise b).en = s.en := rfl
@[simp] theorem raise_loopback (s : State) (b : Word) : (s.raise b).loopback = s.loopback := rfl
@[simp] theorem raise_sampleRate (s : State) (b : Word) : (s.raise b).sampleRate = s.sampleRate := rfl
@[simp] theorem raise_cmdResult (s : State) (b : Word) : (s.raise b).cmdResult = s.cmdResult := rfl
@[simp] theorem raise_irqStatus (s : State) (b : Word) : (s.raise b).irqStatus = s.irqStatus ||| b := rfl
@[simp] theorem raise_irqEnable (s : State) (b : Word) : (s.raise b).irqEnable = s.irqEnable := rfl
@[simp] theorem raise_sampleCnt (s : State) (b : Word) : (s.raise b).sampleCnt = s.sampleCnt := rfl
@[simp] theorem raise_rxSampleCnt (s : State) (b : Word) : (s.raise b).rxSampleCnt = s.rxSampleCnt := rfl
@[simp] theorem raise_chans (s : State) (b : Word) : (s.raise b).chans = s.chans := rfl
@[simp] theorem raise_txf (s : State) (b : Word) : (s.raise b).txf = s.txf := rfl
@[simp] theorem raise_rxf (s : State) (b : Word) : (s.raise b).rxf = s.rxf := rfl
@[simp] theorem raise_enA (s : State) (b : Word) : (s.raise b).enA = s.enA := rfl
@[simp] theorem raise_rxenA (s : State) (b : Word) : (s.raise b).rxenA = s.rxenA := rfl
@[simp] theorem raise_undPend (s : State) (b : Word) : (s.raise b).undPend = s.undPend := rfl
@[simp] theorem raise_ovfPend (s : State) (b : Word) : (s.raise b).ovfPend = s.ovfPend := rfl
@[simp] theorem raise_rst (s : State) (b : Word) : (s.raise b).rst = s.rst := rfl
@[simp] theorem raise_epoch (s : State) (b : Word) : (s.raise b).epoch = s.epoch := rfl
@[simp] theorem raise_tick (s : State) (b : Word) : (s.raise b).tick = s.tick := rfl
@[simp] theorem raise_pending (s : State) (b : Word) : (s.raise b).pending = s.pending := rfl
@[simp] theorem raise_dacStream (s : State) (b : Word) : (s.raise b).dacStream = s.dacStream := rfl
@[simp] theorem raise_readStream (s : State) (b : Word) : (s.raise b).readStream = s.readStream := rfl

/-! ### State.setFifo -/

@[simp] theorem setFifo_txf_en (s : State) (f : Fifo) : (s.setFifo .txf f).en = s.en := rfl
@[simp] theorem setFifo_txf_loopback (s : State) (f : Fifo) : (s.setFifo .txf f).loopback = s.loopback := rfl
@[simp] theorem setFifo_txf_sampleRate (s : State) (f : Fifo) : (s.setFifo .txf f).sampleRate = s.sampleRate := rfl
@[simp] theorem setFifo_txf_cmdResult (s : State) (f : Fifo) : (s.setFifo .txf f).cmdResult = s.cmdResult := rfl
@[simp] theorem setFifo_txf_irqStatus (s : State) (f : Fifo) : (s.setFifo .txf f).irqStatus = s.irqStatus := rfl
@[simp] theorem setFifo_txf_irqEnable (s : State) (f : Fifo) : (s.setFifo .txf f).irqEnable = s.irqEnable := rfl
@[simp] theorem setFifo_txf_sampleCnt (s : State) (f : Fifo) : (s.setFifo .txf f).sampleCnt = s.sampleCnt := rfl
@[simp] theorem setFifo_txf_rxSampleCnt (s : State) (f : Fifo) : (s.setFifo .txf f).rxSampleCnt = s.rxSampleCnt := rfl
@[simp] theorem setFifo_txf_chans (s : State) (f : Fifo) : (s.setFifo .txf f).chans = s.chans := rfl
@[simp] theorem setFifo_txf_txf (s : State) (f : Fifo) : (s.setFifo .txf f).txf = f := rfl
@[simp] theorem setFifo_txf_rxf (s : State) (f : Fifo) : (s.setFifo .txf f).rxf = s.rxf := rfl
@[simp] theorem setFifo_txf_enA (s : State) (f : Fifo) : (s.setFifo .txf f).enA = s.enA := rfl
@[simp] theorem setFifo_txf_rxenA (s : State) (f : Fifo) : (s.setFifo .txf f).rxenA = s.rxenA := rfl
@[simp] theorem setFifo_txf_undPend (s : State) (f : Fifo) : (s.setFifo .txf f).undPend = s.undPend := rfl
@[simp] theorem setFifo_txf_ovfPend (s : State) (f : Fifo) : (s.setFifo .txf f).ovfPend = s.ovfPend := rfl
@[simp] theorem setFifo_txf_rst (s : State) (f : Fifo) : (s.setFifo .txf f).rst = s.rst := rfl
@[simp] theorem setFifo_txf_epoch (s : State) (f : Fifo) : (s.setFifo .txf f).epoch = s.epoch := rfl
@[simp] theorem setFifo_txf_tick (s : State) (f : Fifo) : (s.setFifo .txf f).tick = s.tick := rfl
@[simp] theorem setFifo_txf_pending (s : State) (f : Fifo) : (s.setFifo .txf f).pending = s.pending := rfl
@[simp] theorem setFifo_txf_dacStream (s : State) (f : Fifo) : (s.setFifo .txf f).dacStream = s.dacStream := rfl
@[simp] theorem setFifo_txf_readStream (s : State) (f : Fifo) : (s.setFifo .txf f).readStream = s.readStream := rfl

@[simp] theorem setFifo_rxf_en (s : State) (f : Fifo) : (s.setFifo .rxf f).en = s.en := rfl
@[simp] theorem setFifo_rxf_loopback (s : State) (f : Fifo) : (s.setFifo .rxf f).loopback = s.loopback := rfl
@[simp] theorem setFifo_rxf_sampleRate (s : State) (f : Fifo) : (s.setFifo .rxf f).sampleRate = s.sampleRate := rfl
@[simp] theorem setFifo_rxf_cmdResult (s : State) (f : Fifo) : (s.setFifo .rxf f).cmdResult = s.cmdResult := rfl
@[simp] theorem setFifo_rxf_irqStatus (s : State) (f : Fifo) : (s.setFifo .rxf f).irqStatus = s.irqStatus := rfl
@[simp] theorem setFifo_rxf_irqEnable (s : State) (f : Fifo) : (s.setFifo .rxf f).irqEnable = s.irqEnable := rfl
@[simp] theorem setFifo_rxf_sampleCnt (s : State) (f : Fifo) : (s.setFifo .rxf f).sampleCnt = s.sampleCnt := rfl
@[simp] theorem setFifo_rxf_rxSampleCnt (s : State) (f : Fifo) : (s.setFifo .rxf f).rxSampleCnt = s.rxSampleCnt := rfl
@[simp] theorem setFifo_rxf_chans (s : State) (f : Fifo) : (s.setFifo .rxf f).chans = s.chans := rfl
@[simp] theorem setFifo_rxf_txf (s : State) (f : Fifo) : (s.setFifo .rxf f).txf = s.txf := rfl
@[simp] theorem setFifo_rxf_rxf (s : State) (f : Fifo) : (s.setFifo .rxf f).rxf = f := rfl
@[simp] theorem setFifo_rxf_enA (s : State) (f : Fifo) : (s.setFifo .rxf f).enA = s.enA := rfl
@[simp] theorem setFifo_rxf_rxenA (s : State) (f : Fifo) : (s.setFifo .rxf f).rxenA = s.rxenA := rfl
@[simp] theorem setFifo_rxf_undPend (s : State) (f : Fifo) : (s.setFifo .rxf f).undPend = s.undPend := rfl
@[simp] theorem setFifo_rxf_ovfPend (s : State) (f : Fifo) : (s.setFifo .rxf f).ovfPend = s.ovfPend := rfl
@[simp] theorem setFifo_rxf_rst (s : State) (f : Fifo) : (s.setFifo .rxf f).rst = s.rst := rfl
@[simp] theorem setFifo_rxf_epoch (s : State) (f : Fifo) : (s.setFifo .rxf f).epoch = s.epoch := rfl
@[simp] theorem setFifo_rxf_tick (s : State) (f : Fifo) : (s.setFifo .rxf f).tick = s.tick := rfl
@[simp] theorem setFifo_rxf_pending (s : State) (f : Fifo) : (s.setFifo .rxf f).pending = s.pending := rfl
@[simp] theorem setFifo_rxf_dacStream (s : State) (f : Fifo) : (s.setFifo .rxf f).dacStream = s.dacStream := rfl
@[simp] theorem setFifo_rxf_readStream (s : State) (f : Fifo) : (s.setFifo .rxf f).readStream = s.readStream := rfl

/-! ### complete -/

@[simp] theorem complete_en (op : Byte) (ch : BitVec 4) (code : ResultCode) (s : State) : (complete op ch code s).en = s.en := rfl
@[simp] theorem complete_loopback (op : Byte) (ch : BitVec 4) (code : ResultCode) (s : State) : (complete op ch code s).loopback = s.loopback := rfl
@[simp] theorem complete_sampleRate (op : Byte) (ch : BitVec 4) (code : ResultCode) (s : State) : (complete op ch code s).sampleRate = s.sampleRate := rfl
@[simp] theorem complete_cmdResult (op : Byte) (ch : BitVec 4) (code : ResultCode) (s : State) : (complete op ch code s).cmdResult = resultWord op ch code := rfl
@[simp] theorem complete_irqStatus (op : Byte) (ch : BitVec 4) (code : ResultCode) (s : State) : (complete op ch code s).irqStatus = if code = .ok then s.irqStatus else s.irqStatus ||| cmdErrBit := rfl
@[simp] theorem complete_irqEnable (op : Byte) (ch : BitVec 4) (code : ResultCode) (s : State) : (complete op ch code s).irqEnable = s.irqEnable := rfl
@[simp] theorem complete_sampleCnt (op : Byte) (ch : BitVec 4) (code : ResultCode) (s : State) : (complete op ch code s).sampleCnt = s.sampleCnt := rfl
@[simp] theorem complete_rxSampleCnt (op : Byte) (ch : BitVec 4) (code : ResultCode) (s : State) : (complete op ch code s).rxSampleCnt = s.rxSampleCnt := rfl
@[simp] theorem complete_chans (op : Byte) (ch : BitVec 4) (code : ResultCode) (s : State) : (complete op ch code s).chans = s.chans := rfl
@[simp] theorem complete_txf (op : Byte) (ch : BitVec 4) (code : ResultCode) (s : State) : (complete op ch code s).txf = s.txf := rfl
@[simp] theorem complete_rxf (op : Byte) (ch : BitVec 4) (code : ResultCode) (s : State) : (complete op ch code s).rxf = s.rxf := rfl
@[simp] theorem complete_enA (op : Byte) (ch : BitVec 4) (code : ResultCode) (s : State) : (complete op ch code s).enA = s.enA := rfl
@[simp] theorem complete_rxenA (op : Byte) (ch : BitVec 4) (code : ResultCode) (s : State) : (complete op ch code s).rxenA = s.rxenA := rfl
@[simp] theorem complete_undPend (op : Byte) (ch : BitVec 4) (code : ResultCode) (s : State) : (complete op ch code s).undPend = s.undPend := rfl
@[simp] theorem complete_ovfPend (op : Byte) (ch : BitVec 4) (code : ResultCode) (s : State) : (complete op ch code s).ovfPend = s.ovfPend := rfl
@[simp] theorem complete_rst (op : Byte) (ch : BitVec 4) (code : ResultCode) (s : State) : (complete op ch code s).rst = s.rst := rfl
@[simp] theorem complete_epoch (op : Byte) (ch : BitVec 4) (code : ResultCode) (s : State) : (complete op ch code s).epoch = s.epoch := rfl
@[simp] theorem complete_tick (op : Byte) (ch : BitVec 4) (code : ResultCode) (s : State) : (complete op ch code s).tick = s.tick := rfl
@[simp] theorem complete_pending (op : Byte) (ch : BitVec 4) (code : ResultCode) (s : State) : (complete op ch code s).pending = s.pending := rfl
@[simp] theorem complete_dacStream (op : Byte) (ch : BitVec 4) (code : ResultCode) (s : State) : (complete op ch code s).dacStream = s.dacStream := rfl
@[simp] theorem complete_readStream (op : Byte) (ch : BitVec 4) (code : ResultCode) (s : State) : (complete op ch code s).readStream = s.readStream := rfl

/-! ### State.rxFeed -/

@[simp] theorem rxFeed_en (s : State) (x : Sample) : (s.rxFeed x).en = s.en := rfl
@[simp] theorem rxFeed_loopback (s : State) (x : Sample) : (s.rxFeed x).loopback = s.loopback := rfl
@[simp] theorem rxFeed_sampleRate (s : State) (x : Sample) : (s.rxFeed x).sampleRate = s.sampleRate := rfl
@[simp] theorem rxFeed_cmdResult (s : State) (x : Sample) : (s.rxFeed x).cmdResult = s.cmdResult := rfl
@[simp] theorem rxFeed_irqStatus (s : State) (x : Sample) : (s.rxFeed x).irqStatus = s.irqStatus |||
      (chanBits rxMsgBit (fun c => (s.rxSlot x c).msg) ||| chanBits rxqDropBit (fun c => (s.rxSlot x c).drop)) := rfl
@[simp] theorem rxFeed_irqEnable (s : State) (x : Sample) : (s.rxFeed x).irqEnable = s.irqEnable := rfl
@[simp] theorem rxFeed_sampleCnt (s : State) (x : Sample) : (s.rxFeed x).sampleCnt = s.sampleCnt := rfl
@[simp] theorem rxFeed_rxSampleCnt (s : State) (x : Sample) : (s.rxFeed x).rxSampleCnt = s.rxSampleCnt + 1 := rfl
@[simp] theorem rxFeed_chans (s : State) (x : Sample) : (s.rxFeed x).chans = Vector.ofFn fun c => (s.rxSlot x c).chan := rfl
@[simp] theorem rxFeed_txf (s : State) (x : Sample) : (s.rxFeed x).txf = s.txf := rfl
@[simp] theorem rxFeed_rxf (s : State) (x : Sample) : (s.rxFeed x).rxf = s.rxf := rfl
@[simp] theorem rxFeed_enA (s : State) (x : Sample) : (s.rxFeed x).enA = s.enA := rfl
@[simp] theorem rxFeed_rxenA (s : State) (x : Sample) : (s.rxFeed x).rxenA = s.rxenA := rfl
@[simp] theorem rxFeed_undPend (s : State) (x : Sample) : (s.rxFeed x).undPend = s.undPend := rfl
@[simp] theorem rxFeed_ovfPend (s : State) (x : Sample) : (s.rxFeed x).ovfPend = s.ovfPend := rfl
@[simp] theorem rxFeed_rst (s : State) (x : Sample) : (s.rxFeed x).rst = s.rst := rfl
@[simp] theorem rxFeed_epoch (s : State) (x : Sample) : (s.rxFeed x).epoch = s.epoch := rfl
@[simp] theorem rxFeed_tick (s : State) (x : Sample) : (s.rxFeed x).tick = s.tick := rfl
@[simp] theorem rxFeed_pending (s : State) (x : Sample) : (s.rxFeed x).pending = s.pending := rfl
@[simp] theorem rxFeed_dacStream (s : State) (x : Sample) : (s.rxFeed x).dacStream = s.dacStream := rfl
@[simp] theorem rxFeed_readStream (s : State) (x : Sample) : (s.rxFeed x).readStream = s.readStream := rfl

/-! ### State.txProduce -/

@[simp] theorem txProduce_en (s : State) : (s.txProduce).en = s.en := rfl
@[simp] theorem txProduce_loopback (s : State) : (s.txProduce).loopback = s.loopback := rfl
@[simp] theorem txProduce_sampleRate (s : State) : (s.txProduce).sampleRate = s.sampleRate := rfl
@[simp] theorem txProduce_cmdResult (s : State) : (s.txProduce).cmdResult = s.cmdResult := rfl
@[simp] theorem txProduce_irqStatus (s : State) : (s.txProduce).irqStatus = s.irqStatus ||| chanBits txDoneBit (fun c => (s.txSlot c).done) := rfl
@[simp] theorem txProduce_irqEnable (s : State) : (s.txProduce).irqEnable = s.irqEnable := rfl
@[simp] theorem txProduce_sampleCnt (s : State) : (s.txProduce).sampleCnt = s.sampleCnt + 1 := rfl
@[simp] theorem txProduce_rxSampleCnt (s : State) : (s.txProduce).rxSampleCnt = s.rxSampleCnt := rfl
@[simp] theorem txProduce_chans (s : State) : (s.txProduce).chans = Vector.ofFn fun c => (s.txSlot c).chan := rfl
@[simp] theorem txProduce_txf (s : State) : (s.txProduce).txf = s.txf.push (toSample s.mixed) := rfl
@[simp] theorem txProduce_rxf (s : State) : (s.txProduce).rxf = s.rxf := rfl
@[simp] theorem txProduce_enA (s : State) : (s.txProduce).enA = s.enA := rfl
@[simp] theorem txProduce_rxenA (s : State) : (s.txProduce).rxenA = s.rxenA := rfl
@[simp] theorem txProduce_undPend (s : State) : (s.txProduce).undPend = s.undPend := rfl
@[simp] theorem txProduce_ovfPend (s : State) : (s.txProduce).ovfPend = s.ovfPend := rfl
@[simp] theorem txProduce_rst (s : State) : (s.txProduce).rst = s.rst := rfl
@[simp] theorem txProduce_epoch (s : State) : (s.txProduce).epoch = s.epoch := rfl
@[simp] theorem txProduce_tick (s : State) : (s.txProduce).tick = s.tick := rfl
@[simp] theorem txProduce_pending (s : State) : (s.txProduce).pending = s.pending := rfl
@[simp] theorem txProduce_dacStream (s : State) : (s.txProduce).dacStream = s.dacStream := rfl
@[simp] theorem txProduce_readStream (s : State) : (s.txProduce).readStream = s.readStream := rfl

/-! ### State.assertReset -/

@[simp] theorem assertReset_en (s : State) : (s.assertReset).en = State.reset.en := rfl
@[simp] theorem assertReset_loopback (s : State) : (s.assertReset).loopback = State.reset.loopback := rfl
@[simp] theorem assertReset_sampleRate (s : State) : (s.assertReset).sampleRate = State.reset.sampleRate := rfl
@[simp] theorem assertReset_cmdResult (s : State) : (s.assertReset).cmdResult = State.reset.cmdResult := rfl
@[simp] theorem assertReset_irqStatus (s : State) : (s.assertReset).irqStatus = State.reset.irqStatus := rfl
@[simp] theorem assertReset_irqEnable (s : State) : (s.assertReset).irqEnable = State.reset.irqEnable := rfl
@[simp] theorem assertReset_sampleCnt (s : State) : (s.assertReset).sampleCnt = State.reset.sampleCnt := rfl
@[simp] theorem assertReset_rxSampleCnt (s : State) : (s.assertReset).rxSampleCnt = State.reset.rxSampleCnt := rfl
@[simp] theorem assertReset_chans (s : State) : (s.assertReset).chans = State.reset.chans := rfl
@[simp] theorem assertReset_txf (s : State) : (s.assertReset).txf = State.reset.txf := rfl
@[simp] theorem assertReset_rxf (s : State) : (s.assertReset).rxf = State.reset.rxf := rfl
@[simp] theorem assertReset_enA (s : State) : (s.assertReset).enA = State.reset.enA := rfl
@[simp] theorem assertReset_rxenA (s : State) : (s.assertReset).rxenA = State.reset.rxenA := rfl
@[simp] theorem assertReset_undPend (s : State) : (s.assertReset).undPend = State.reset.undPend := rfl
@[simp] theorem assertReset_ovfPend (s : State) : (s.assertReset).ovfPend = State.reset.ovfPend := rfl
@[simp] theorem assertReset_rst (s : State) : (s.assertReset).rst = true := rfl
@[simp] theorem assertReset_epoch (s : State) : (s.assertReset).epoch = s.epoch + 1 := rfl
@[simp] theorem assertReset_tick (s : State) : (s.assertReset).tick = s.tick := rfl
@[simp] theorem assertReset_pending (s : State) : (s.assertReset).pending = s.pending := rfl
@[simp] theorem assertReset_dacStream (s : State) : (s.assertReset).dacStream = s.dacStream := rfl
@[simp] theorem assertReset_readStream (s : State) : (s.assertReset).readStream = s.readStream := rfl

/-! ### Channel updates -/

@[simp] theorem rxClear_baseFreq (ch : Channel) : (ch.rxClear).baseFreq = ch.baseFreq := rfl
@[simp] theorem rxClear_freqSpacing (ch : Channel) : (ch.rxClear).freqSpacing = ch.freqSpacing := rfl
@[simp] theorem rxClear_symbolRate (ch : Channel) : (ch.rxClear).symbolRate = ch.symbolRate := rfl
@[simp] theorem rxClear_order (ch : Channel) : (ch.rxClear).order = ch.order := rfl
@[simp] theorem rxClear_frameLen (ch : Channel) : (ch.rxClear).frameLen = ch.frameLen := rfl
@[simp] theorem rxClear_txLen (ch : Channel) : (ch.rxClear).txLen = ch.txLen := rfl
@[simp] theorem rxClear_phaseSel (ch : Channel) : (ch.rxClear).phaseSel = ch.phaseSel := rfl
@[simp] theorem rxClear_joined (ch : Channel) : (ch.rxClear).joined = ch.joined := rfl
@[simp] theorem rxClear_orderAct (ch : Channel) : (ch.rxClear).orderAct = ch.orderAct := rfl
@[simp] theorem rxClear_pAct (ch : Channel) : (ch.rxClear).pAct = ch.pAct := rfl
@[simp] theorem rxClear_frameAct (ch : Channel) : (ch.rxClear).frameAct = ch.frameAct := rfl
@[simp] theorem rxClear_ftw (ch : Channel) : (ch.rxClear).ftw = ch.ftw := rfl
@[simp] theorem rxClear_nyqWarn (ch : Channel) : (ch.rxClear).nyqWarn = ch.nyqWarn := rfl
@[simp] theorem rxClear_phase (ch : Channel) : (ch.rxClear).phase = ch.phase := rfl
@[simp] theorem rxClear_txb (ch : Channel) : (ch.rxClear).txb = ch.txb := rfl
@[simp] theorem rxClear_stg (ch : Channel) : (ch.rxClear).stg = ch.stg := rfl
@[simp] theorem rxClear_actLen (ch : Channel) : (ch.rxClear).actLen = ch.actLen := rfl
@[simp] theorem rxClear_txBusy (ch : Channel) : (ch.rxClear).txBusy = ch.txBusy := rfl
@[simp] theorem rxClear_txSym (ch : Channel) : (ch.rxClear).txSym = ch.txSym := rfl
@[simp] theorem rxClear_txSamp (ch : Channel) : (ch.rxClear).txSamp = ch.txSamp := rfl
@[simp] theorem rxClear_rx (ch : Channel) : (ch.rxClear).rx = RxState.clear := rfl
@[simp] theorem rxClear_rxq (ch : Channel) : (ch.rxClear).rxq = ch.rxq := rfl
@[simp] theorem rxClear_rxqDrops (ch : Channel) : (ch.rxClear).rxqDrops = ch.rxqDrops := rfl

@[simp] theorem startMessage_baseFreq (ch : Channel) : (startMessage ch).baseFreq = ch.baseFreq := rfl
@[simp] theorem startMessage_freqSpacing (ch : Channel) : (startMessage ch).freqSpacing = ch.freqSpacing := rfl
@[simp] theorem startMessage_symbolRate (ch : Channel) : (startMessage ch).symbolRate = ch.symbolRate := rfl
@[simp] theorem startMessage_order (ch : Channel) : (startMessage ch).order = ch.order := rfl
@[simp] theorem startMessage_frameLen (ch : Channel) : (startMessage ch).frameLen = ch.frameLen := rfl
@[simp] theorem startMessage_txLen (ch : Channel) : (startMessage ch).txLen = ch.txLen := rfl
@[simp] theorem startMessage_phaseSel (ch : Channel) : (startMessage ch).phaseSel = ch.phaseSel := rfl
@[simp] theorem startMessage_joined (ch : Channel) : (startMessage ch).joined = ch.joined := rfl
@[simp] theorem startMessage_orderAct (ch : Channel) : (startMessage ch).orderAct = ch.orderAct := rfl
@[simp] theorem startMessage_pAct (ch : Channel) : (startMessage ch).pAct = ch.pAct := rfl
@[simp] theorem startMessage_frameAct (ch : Channel) : (startMessage ch).frameAct = ch.frameAct := rfl
@[simp] theorem startMessage_ftw (ch : Channel) : (startMessage ch).ftw = ch.ftw := rfl
@[simp] theorem startMessage_nyqWarn (ch : Channel) : (startMessage ch).nyqWarn = ch.nyqWarn := rfl
@[simp] theorem startMessage_phase (ch : Channel) : (startMessage ch).phase = ch.phase := rfl
@[simp] theorem startMessage_txb (ch : Channel) : (startMessage ch).txb = ch.txb := rfl
@[simp] theorem startMessage_stg (ch : Channel) : (startMessage ch).stg = !ch.stg := rfl
@[simp] theorem startMessage_actLen (ch : Channel) : (startMessage ch).actLen = ch.txLen := rfl
@[simp] theorem startMessage_txBusy (ch : Channel) : (startMessage ch).txBusy = decide (ch.txLen ≠ 0) := rfl
@[simp] theorem startMessage_txSym (ch : Channel) : (startMessage ch).txSym = 0 := rfl
@[simp] theorem startMessage_txSamp (ch : Channel) : (startMessage ch).txSamp = 0 := rfl
@[simp] theorem startMessage_rx (ch : Channel) : (startMessage ch).rx = ch.rx := rfl
@[simp] theorem startMessage_rxq (ch : Channel) : (startMessage ch).rxq = ch.rxq := rfl
@[simp] theorem startMessage_rxqDrops (ch : Channel) : (startMessage ch).rxqDrops = ch.rxqDrops := rfl

@[simp] theorem leaveChannel_baseFreq (ch : Channel) : (leaveChannel ch).baseFreq = ch.baseFreq := rfl
@[simp] theorem leaveChannel_freqSpacing (ch : Channel) : (leaveChannel ch).freqSpacing = ch.freqSpacing := rfl
@[simp] theorem leaveChannel_symbolRate (ch : Channel) : (leaveChannel ch).symbolRate = ch.symbolRate := rfl
@[simp] theorem leaveChannel_order (ch : Channel) : (leaveChannel ch).order = ch.order := rfl
@[simp] theorem leaveChannel_frameLen (ch : Channel) : (leaveChannel ch).frameLen = ch.frameLen := rfl
@[simp] theorem leaveChannel_txLen (ch : Channel) : (leaveChannel ch).txLen = ch.txLen := rfl
@[simp] theorem leaveChannel_phaseSel (ch : Channel) : (leaveChannel ch).phaseSel = ch.phaseSel := rfl
@[simp] theorem leaveChannel_joined (ch : Channel) : (leaveChannel ch).joined = false := rfl
@[simp] theorem leaveChannel_orderAct (ch : Channel) : (leaveChannel ch).orderAct = ch.orderAct := rfl
@[simp] theorem leaveChannel_pAct (ch : Channel) : (leaveChannel ch).pAct = ch.pAct := rfl
@[simp] theorem leaveChannel_frameAct (ch : Channel) : (leaveChannel ch).frameAct = ch.frameAct := rfl
@[simp] theorem leaveChannel_ftw (ch : Channel) : (leaveChannel ch).ftw = ch.ftw := rfl
@[simp] theorem leaveChannel_nyqWarn (ch : Channel) : (leaveChannel ch).nyqWarn = ch.nyqWarn := rfl
@[simp] theorem leaveChannel_phase (ch : Channel) : (leaveChannel ch).phase = ch.phase := rfl
@[simp] theorem leaveChannel_txb (ch : Channel) : (leaveChannel ch).txb = ch.txb := rfl
@[simp] theorem leaveChannel_stg (ch : Channel) : (leaveChannel ch).stg = ch.stg := rfl
@[simp] theorem leaveChannel_actLen (ch : Channel) : (leaveChannel ch).actLen = 0 := rfl
@[simp] theorem leaveChannel_txBusy (ch : Channel) : (leaveChannel ch).txBusy = false := rfl
@[simp] theorem leaveChannel_txSym (ch : Channel) : (leaveChannel ch).txSym = 0 := rfl
@[simp] theorem leaveChannel_txSamp (ch : Channel) : (leaveChannel ch).txSamp = 0 := rfl
@[simp] theorem leaveChannel_rx (ch : Channel) : (leaveChannel ch).rx = RxState.clear := rfl
@[simp] theorem leaveChannel_rxq (ch : Channel) : (leaveChannel ch).rxq = [] := rfl
@[simp] theorem leaveChannel_rxqDrops (ch : Channel) : (leaveChannel ch).rxqDrops = ch.rxqDrops := rfl

@[simp] theorem joinChannel_baseFreq (sr : Word) (ch : Channel) : (joinChannel sr ch).baseFreq = ch.baseFreq := rfl
@[simp] theorem joinChannel_freqSpacing (sr : Word) (ch : Channel) : (joinChannel sr ch).freqSpacing = ch.freqSpacing := rfl
@[simp] theorem joinChannel_symbolRate (sr : Word) (ch : Channel) : (joinChannel sr ch).symbolRate = ch.symbolRate := rfl
@[simp] theorem joinChannel_order (sr : Word) (ch : Channel) : (joinChannel sr ch).order = ch.order := rfl
@[simp] theorem joinChannel_frameLen (sr : Word) (ch : Channel) : (joinChannel sr ch).frameLen = ch.frameLen := rfl
@[simp] theorem joinChannel_txLen (sr : Word) (ch : Channel) : (joinChannel sr ch).txLen = ch.txLen := rfl
@[simp] theorem joinChannel_phaseSel (sr : Word) (ch : Channel) : (joinChannel sr ch).phaseSel = ch.phaseSel := rfl
@[simp] theorem joinChannel_joined (sr : Word) (ch : Channel) : (joinChannel sr ch).joined = true := rfl
@[simp] theorem joinChannel_orderAct (sr : Word) (ch : Channel) : (joinChannel sr ch).orderAct = ch.order := rfl
@[simp] theorem joinChannel_pAct (sr : Word) (ch : Channel) : (joinChannel sr ch).pAct = BitVec.ofNat 16 (symbolPeriod sr.toNat ch.symbolRate.toNat) := rfl
@[simp] theorem joinChannel_frameAct (sr : Word) (ch : Channel) : (joinChannel sr ch).frameAct = ch.frameLen := rfl
@[simp] theorem joinChannel_ftw (sr : Word) (ch : Channel) : (joinChannel sr ch).ftw = Vector.ofFn fun i : Lane =>
      if i.val < 2 ^ ch.order.toNat then tuningWord (toneFreq ch i.val) sr.toNat else 0 := rfl
@[simp] theorem joinChannel_nyqWarn (sr : Word) (ch : Channel) : (joinChannel sr ch).nyqWarn = nyquistWarn ch ch.order.toNat sr.toNat := rfl
@[simp] theorem joinChannel_phase (sr : Word) (ch : Channel) : (joinChannel sr ch).phase = Vector.replicate 16 0 := rfl
@[simp] theorem joinChannel_txb (sr : Word) (ch : Channel) : (joinChannel sr ch).txb = ch.txb := rfl
@[simp] theorem joinChannel_stg (sr : Word) (ch : Channel) : (joinChannel sr ch).stg = ch.stg := rfl
@[simp] theorem joinChannel_actLen (sr : Word) (ch : Channel) : (joinChannel sr ch).actLen = 0 := rfl
@[simp] theorem joinChannel_txBusy (sr : Word) (ch : Channel) : (joinChannel sr ch).txBusy = false := rfl
@[simp] theorem joinChannel_txSym (sr : Word) (ch : Channel) : (joinChannel sr ch).txSym = 0 := rfl
@[simp] theorem joinChannel_txSamp (sr : Word) (ch : Channel) : (joinChannel sr ch).txSamp = 0 := rfl
@[simp] theorem joinChannel_rx (sr : Word) (ch : Channel) : (joinChannel sr ch).rx = RxState.clear := rfl
@[simp] theorem joinChannel_rxq (sr : Word) (ch : Channel) : (joinChannel sr ch).rxq = [] := rfl
@[simp] theorem joinChannel_rxqDrops (sr : Word) (ch : Channel) : (joinChannel sr ch).rxqDrops = 0 := rfl

@[simp] theorem phaseAdvance_baseFreq (i : Lane) (ch : Channel) : (phaseAdvance i ch).baseFreq = ch.baseFreq := rfl
@[simp] theorem phaseAdvance_freqSpacing (i : Lane) (ch : Channel) : (phaseAdvance i ch).freqSpacing = ch.freqSpacing := rfl
@[simp] theorem phaseAdvance_symbolRate (i : Lane) (ch : Channel) : (phaseAdvance i ch).symbolRate = ch.symbolRate := rfl
@[simp] theorem phaseAdvance_order (i : Lane) (ch : Channel) : (phaseAdvance i ch).order = ch.order := rfl
@[simp] theorem phaseAdvance_frameLen (i : Lane) (ch : Channel) : (phaseAdvance i ch).frameLen = ch.frameLen := rfl
@[simp] theorem phaseAdvance_txLen (i : Lane) (ch : Channel) : (phaseAdvance i ch).txLen = ch.txLen := rfl
@[simp] theorem phaseAdvance_phaseSel (i : Lane) (ch : Channel) : (phaseAdvance i ch).phaseSel = ch.phaseSel := rfl
@[simp] theorem phaseAdvance_joined (i : Lane) (ch : Channel) : (phaseAdvance i ch).joined = ch.joined := rfl
@[simp] theorem phaseAdvance_orderAct (i : Lane) (ch : Channel) : (phaseAdvance i ch).orderAct = ch.orderAct := rfl
@[simp] theorem phaseAdvance_pAct (i : Lane) (ch : Channel) : (phaseAdvance i ch).pAct = ch.pAct := rfl
@[simp] theorem phaseAdvance_frameAct (i : Lane) (ch : Channel) : (phaseAdvance i ch).frameAct = ch.frameAct := rfl
@[simp] theorem phaseAdvance_ftw (i : Lane) (ch : Channel) : (phaseAdvance i ch).ftw = ch.ftw := rfl
@[simp] theorem phaseAdvance_nyqWarn (i : Lane) (ch : Channel) : (phaseAdvance i ch).nyqWarn = ch.nyqWarn := rfl
@[simp] theorem phaseAdvance_phase (i : Lane) (ch : Channel) : (phaseAdvance i ch).phase = ch.phase.set i.val (ch.phase[i.val] + ch.ftw[i.val]) := rfl
@[simp] theorem phaseAdvance_txb (i : Lane) (ch : Channel) : (phaseAdvance i ch).txb = ch.txb := rfl
@[simp] theorem phaseAdvance_stg (i : Lane) (ch : Channel) : (phaseAdvance i ch).stg = ch.stg := rfl
@[simp] theorem phaseAdvance_actLen (i : Lane) (ch : Channel) : (phaseAdvance i ch).actLen = ch.actLen := rfl
@[simp] theorem phaseAdvance_txBusy (i : Lane) (ch : Channel) : (phaseAdvance i ch).txBusy = ch.txBusy := rfl
@[simp] theorem phaseAdvance_txSym (i : Lane) (ch : Channel) : (phaseAdvance i ch).txSym = ch.txSym := rfl
@[simp] theorem phaseAdvance_txSamp (i : Lane) (ch : Channel) : (phaseAdvance i ch).txSamp = ch.txSamp := rfl
@[simp] theorem phaseAdvance_rx (i : Lane) (ch : Channel) : (phaseAdvance i ch).rx = ch.rx := rfl
@[simp] theorem phaseAdvance_rxq (i : Lane) (ch : Channel) : (phaseAdvance i ch).rxq = ch.rxq := rfl
@[simp] theorem phaseAdvance_rxqDrops (i : Lane) (ch : Channel) : (phaseAdvance i ch).rxqDrops = ch.rxqDrops := rfl

@[simp] theorem correlate_baseFreq (x : Sample) (ch : Channel) : (correlate x ch).baseFreq = ch.baseFreq := by
  simp only [correlate]
@[simp] theorem correlate_freqSpacing (x : Sample) (ch : Channel) : (correlate x ch).freqSpacing = ch.freqSpacing := by
  simp only [correlate]
@[simp] theorem correlate_symbolRate (x : Sample) (ch : Channel) : (correlate x ch).symbolRate = ch.symbolRate := by
  simp only [correlate]
@[simp] theorem correlate_order (x : Sample) (ch : Channel) : (correlate x ch).order = ch.order := by
  simp only [correlate]
@[simp] theorem correlate_frameLen (x : Sample) (ch : Channel) : (correlate x ch).frameLen = ch.frameLen := by
  simp only [correlate]
@[simp] theorem correlate_txLen (x : Sample) (ch : Channel) : (correlate x ch).txLen = ch.txLen := by
  simp only [correlate]
@[simp] theorem correlate_phaseSel (x : Sample) (ch : Channel) : (correlate x ch).phaseSel = ch.phaseSel := by
  simp only [correlate]
@[simp] theorem correlate_joined (x : Sample) (ch : Channel) : (correlate x ch).joined = ch.joined := by
  simp only [correlate]
@[simp] theorem correlate_orderAct (x : Sample) (ch : Channel) : (correlate x ch).orderAct = ch.orderAct := by
  simp only [correlate]
@[simp] theorem correlate_pAct (x : Sample) (ch : Channel) : (correlate x ch).pAct = ch.pAct := by
  simp only [correlate]
@[simp] theorem correlate_frameAct (x : Sample) (ch : Channel) : (correlate x ch).frameAct = ch.frameAct := by
  simp only [correlate]
@[simp] theorem correlate_ftw (x : Sample) (ch : Channel) : (correlate x ch).ftw = ch.ftw := by
  simp only [correlate]
@[simp] theorem correlate_nyqWarn (x : Sample) (ch : Channel) : (correlate x ch).nyqWarn = ch.nyqWarn := by
  simp only [correlate]
@[simp] theorem correlate_phase (x : Sample) (ch : Channel) : (correlate x ch).phase = ch.phase := by
  simp only [correlate]
@[simp] theorem correlate_txb (x : Sample) (ch : Channel) : (correlate x ch).txb = ch.txb := by
  simp only [correlate]
@[simp] theorem correlate_stg (x : Sample) (ch : Channel) : (correlate x ch).stg = ch.stg := by
  simp only [correlate]
@[simp] theorem correlate_actLen (x : Sample) (ch : Channel) : (correlate x ch).actLen = ch.actLen := by
  simp only [correlate]
@[simp] theorem correlate_txBusy (x : Sample) (ch : Channel) : (correlate x ch).txBusy = ch.txBusy := by
  simp only [correlate]
@[simp] theorem correlate_txSym (x : Sample) (ch : Channel) : (correlate x ch).txSym = ch.txSym := by
  simp only [correlate]
@[simp] theorem correlate_txSamp (x : Sample) (ch : Channel) : (correlate x ch).txSamp = ch.txSamp := by
  simp only [correlate]
@[simp] theorem correlate_rxq (x : Sample) (ch : Channel) : (correlate x ch).rxq = ch.rxq := by
  simp only [correlate]
@[simp] theorem correlate_rxqDrops (x : Sample) (ch : Channel) : (correlate x ch).rxqDrops = ch.rxqDrops := by
  simp only [correlate]

@[simp] theorem assemble_baseFreq (y : Nat) (ch : Channel) : (assemble y ch).baseFreq = ch.baseFreq := rfl
@[simp] theorem assemble_freqSpacing (y : Nat) (ch : Channel) : (assemble y ch).freqSpacing = ch.freqSpacing := rfl
@[simp] theorem assemble_symbolRate (y : Nat) (ch : Channel) : (assemble y ch).symbolRate = ch.symbolRate := rfl
@[simp] theorem assemble_order (y : Nat) (ch : Channel) : (assemble y ch).order = ch.order := rfl
@[simp] theorem assemble_frameLen (y : Nat) (ch : Channel) : (assemble y ch).frameLen = ch.frameLen := rfl
@[simp] theorem assemble_txLen (y : Nat) (ch : Channel) : (assemble y ch).txLen = ch.txLen := rfl
@[simp] theorem assemble_phaseSel (y : Nat) (ch : Channel) : (assemble y ch).phaseSel = ch.phaseSel := rfl
@[simp] theorem assemble_joined (y : Nat) (ch : Channel) : (assemble y ch).joined = ch.joined := rfl
@[simp] theorem assemble_orderAct (y : Nat) (ch : Channel) : (assemble y ch).orderAct = ch.orderAct := rfl
@[simp] theorem assemble_pAct (y : Nat) (ch : Channel) : (assemble y ch).pAct = ch.pAct := rfl
@[simp] theorem assemble_frameAct (y : Nat) (ch : Channel) : (assemble y ch).frameAct = ch.frameAct := rfl
@[simp] theorem assemble_ftw (y : Nat) (ch : Channel) : (assemble y ch).ftw = ch.ftw := rfl
@[simp] theorem assemble_nyqWarn (y : Nat) (ch : Channel) : (assemble y ch).nyqWarn = ch.nyqWarn := rfl
@[simp] theorem assemble_phase (y : Nat) (ch : Channel) : (assemble y ch).phase = ch.phase := rfl
@[simp] theorem assemble_txb (y : Nat) (ch : Channel) : (assemble y ch).txb = ch.txb := rfl
@[simp] theorem assemble_stg (y : Nat) (ch : Channel) : (assemble y ch).stg = ch.stg := rfl
@[simp] theorem assemble_actLen (y : Nat) (ch : Channel) : (assemble y ch).actLen = ch.actLen := rfl
@[simp] theorem assemble_txBusy (y : Nat) (ch : Channel) : (assemble y ch).txBusy = ch.txBusy := rfl
@[simp] theorem assemble_txSym (y : Nat) (ch : Channel) : (assemble y ch).txSym = ch.txSym := rfl
@[simp] theorem assemble_txSamp (y : Nat) (ch : Channel) : (assemble y ch).txSamp = ch.txSamp := rfl
@[simp] theorem assemble_rxq (y : Nat) (ch : Channel) : (assemble y ch).rxq = ch.rxq := rfl
@[simp] theorem assemble_rxqDrops (y : Nat) (ch : Channel) : (assemble y ch).rxqDrops = ch.rxqDrops := rfl

@[simp] theorem windowRestart_baseFreq (ch : Channel) : (windowRestart ch).baseFreq = ch.baseFreq := rfl
@[simp] theorem windowRestart_freqSpacing (ch : Channel) : (windowRestart ch).freqSpacing = ch.freqSpacing := rfl
@[simp] theorem windowRestart_symbolRate (ch : Channel) : (windowRestart ch).symbolRate = ch.symbolRate := rfl
@[simp] theorem windowRestart_order (ch : Channel) : (windowRestart ch).order = ch.order := rfl
@[simp] theorem windowRestart_frameLen (ch : Channel) : (windowRestart ch).frameLen = ch.frameLen := rfl
@[simp] theorem windowRestart_txLen (ch : Channel) : (windowRestart ch).txLen = ch.txLen := rfl
@[simp] theorem windowRestart_phaseSel (ch : Channel) : (windowRestart ch).phaseSel = ch.phaseSel := rfl
@[simp] theorem windowRestart_joined (ch : Channel) : (windowRestart ch).joined = ch.joined := rfl
@[simp] theorem windowRestart_orderAct (ch : Channel) : (windowRestart ch).orderAct = ch.orderAct := rfl
@[simp] theorem windowRestart_pAct (ch : Channel) : (windowRestart ch).pAct = ch.pAct := rfl
@[simp] theorem windowRestart_frameAct (ch : Channel) : (windowRestart ch).frameAct = ch.frameAct := rfl
@[simp] theorem windowRestart_ftw (ch : Channel) : (windowRestart ch).ftw = ch.ftw := rfl
@[simp] theorem windowRestart_nyqWarn (ch : Channel) : (windowRestart ch).nyqWarn = ch.nyqWarn := rfl
@[simp] theorem windowRestart_phase (ch : Channel) : (windowRestart ch).phase = ch.phase := rfl
@[simp] theorem windowRestart_txb (ch : Channel) : (windowRestart ch).txb = ch.txb := rfl
@[simp] theorem windowRestart_stg (ch : Channel) : (windowRestart ch).stg = ch.stg := rfl
@[simp] theorem windowRestart_actLen (ch : Channel) : (windowRestart ch).actLen = ch.actLen := rfl
@[simp] theorem windowRestart_txBusy (ch : Channel) : (windowRestart ch).txBusy = ch.txBusy := rfl
@[simp] theorem windowRestart_txSym (ch : Channel) : (windowRestart ch).txSym = ch.txSym := rfl
@[simp] theorem windowRestart_txSamp (ch : Channel) : (windowRestart ch).txSamp = ch.txSamp := rfl
@[simp] theorem windowRestart_rxq (ch : Channel) : (windowRestart ch).rxq = ch.rxq := rfl
@[simp] theorem windowRestart_rxqDrops (ch : Channel) : (windowRestart ch).rxqDrops = ch.rxqDrops := rfl

@[simp] theorem symbolDecide_baseFreq (ch : Channel) : (symbolDecide ch).baseFreq = ch.baseFreq :=
  (windowRestart_baseFreq _).trans (assemble_baseFreq _ _)
@[simp] theorem symbolDecide_freqSpacing (ch : Channel) : (symbolDecide ch).freqSpacing = ch.freqSpacing :=
  (windowRestart_freqSpacing _).trans (assemble_freqSpacing _ _)
@[simp] theorem symbolDecide_symbolRate (ch : Channel) : (symbolDecide ch).symbolRate = ch.symbolRate :=
  (windowRestart_symbolRate _).trans (assemble_symbolRate _ _)
@[simp] theorem symbolDecide_order (ch : Channel) : (symbolDecide ch).order = ch.order :=
  (windowRestart_order _).trans (assemble_order _ _)
@[simp] theorem symbolDecide_frameLen (ch : Channel) : (symbolDecide ch).frameLen = ch.frameLen :=
  (windowRestart_frameLen _).trans (assemble_frameLen _ _)
@[simp] theorem symbolDecide_txLen (ch : Channel) : (symbolDecide ch).txLen = ch.txLen :=
  (windowRestart_txLen _).trans (assemble_txLen _ _)
@[simp] theorem symbolDecide_phaseSel (ch : Channel) : (symbolDecide ch).phaseSel = ch.phaseSel :=
  (windowRestart_phaseSel _).trans (assemble_phaseSel _ _)
@[simp] theorem symbolDecide_joined (ch : Channel) : (symbolDecide ch).joined = ch.joined :=
  (windowRestart_joined _).trans (assemble_joined _ _)
@[simp] theorem symbolDecide_orderAct (ch : Channel) : (symbolDecide ch).orderAct = ch.orderAct :=
  (windowRestart_orderAct _).trans (assemble_orderAct _ _)
@[simp] theorem symbolDecide_pAct (ch : Channel) : (symbolDecide ch).pAct = ch.pAct :=
  (windowRestart_pAct _).trans (assemble_pAct _ _)
@[simp] theorem symbolDecide_frameAct (ch : Channel) : (symbolDecide ch).frameAct = ch.frameAct :=
  (windowRestart_frameAct _).trans (assemble_frameAct _ _)
@[simp] theorem symbolDecide_ftw (ch : Channel) : (symbolDecide ch).ftw = ch.ftw :=
  (windowRestart_ftw _).trans (assemble_ftw _ _)
@[simp] theorem symbolDecide_nyqWarn (ch : Channel) : (symbolDecide ch).nyqWarn = ch.nyqWarn :=
  (windowRestart_nyqWarn _).trans (assemble_nyqWarn _ _)
@[simp] theorem symbolDecide_phase (ch : Channel) : (symbolDecide ch).phase = ch.phase :=
  (windowRestart_phase _).trans (assemble_phase _ _)
@[simp] theorem symbolDecide_txb (ch : Channel) : (symbolDecide ch).txb = ch.txb :=
  (windowRestart_txb _).trans (assemble_txb _ _)
@[simp] theorem symbolDecide_stg (ch : Channel) : (symbolDecide ch).stg = ch.stg :=
  (windowRestart_stg _).trans (assemble_stg _ _)
@[simp] theorem symbolDecide_actLen (ch : Channel) : (symbolDecide ch).actLen = ch.actLen :=
  (windowRestart_actLen _).trans (assemble_actLen _ _)
@[simp] theorem symbolDecide_txBusy (ch : Channel) : (symbolDecide ch).txBusy = ch.txBusy :=
  (windowRestart_txBusy _).trans (assemble_txBusy _ _)
@[simp] theorem symbolDecide_txSym (ch : Channel) : (symbolDecide ch).txSym = ch.txSym :=
  (windowRestart_txSym _).trans (assemble_txSym _ _)
@[simp] theorem symbolDecide_txSamp (ch : Channel) : (symbolDecide ch).txSamp = ch.txSamp :=
  (windowRestart_txSamp _).trans (assemble_txSamp _ _)
@[simp] theorem symbolDecide_rxq (ch : Channel) : (symbolDecide ch).rxq = ch.rxq :=
  (windowRestart_rxq _).trans (assemble_rxq _ _)
@[simp] theorem symbolDecide_rxqDrops (ch : Channel) : (symbolDecide ch).rxqDrops = ch.rxqDrops :=
  (windowRestart_rxqDrops _).trans (assemble_rxqDrops _ _)

@[simp] theorem writeStage_baseFreq (ch : Channel) (j : Nat) (v : Word) : (writeStage ch j v).baseFreq = ch.baseFreq := rfl
@[simp] theorem writeStage_freqSpacing (ch : Channel) (j : Nat) (v : Word) : (writeStage ch j v).freqSpacing = ch.freqSpacing := rfl
@[simp] theorem writeStage_symbolRate (ch : Channel) (j : Nat) (v : Word) : (writeStage ch j v).symbolRate = ch.symbolRate := rfl
@[simp] theorem writeStage_order (ch : Channel) (j : Nat) (v : Word) : (writeStage ch j v).order = ch.order := rfl
@[simp] theorem writeStage_frameLen (ch : Channel) (j : Nat) (v : Word) : (writeStage ch j v).frameLen = ch.frameLen := rfl
@[simp] theorem writeStage_txLen (ch : Channel) (j : Nat) (v : Word) : (writeStage ch j v).txLen = ch.txLen := rfl
@[simp] theorem writeStage_phaseSel (ch : Channel) (j : Nat) (v : Word) : (writeStage ch j v).phaseSel = ch.phaseSel := rfl
@[simp] theorem writeStage_joined (ch : Channel) (j : Nat) (v : Word) : (writeStage ch j v).joined = ch.joined := rfl
@[simp] theorem writeStage_orderAct (ch : Channel) (j : Nat) (v : Word) : (writeStage ch j v).orderAct = ch.orderAct := rfl
@[simp] theorem writeStage_pAct (ch : Channel) (j : Nat) (v : Word) : (writeStage ch j v).pAct = ch.pAct := rfl
@[simp] theorem writeStage_frameAct (ch : Channel) (j : Nat) (v : Word) : (writeStage ch j v).frameAct = ch.frameAct := rfl
@[simp] theorem writeStage_ftw (ch : Channel) (j : Nat) (v : Word) : (writeStage ch j v).ftw = ch.ftw := rfl
@[simp] theorem writeStage_nyqWarn (ch : Channel) (j : Nat) (v : Word) : (writeStage ch j v).nyqWarn = ch.nyqWarn := rfl
@[simp] theorem writeStage_phase (ch : Channel) (j : Nat) (v : Word) : (writeStage ch j v).phase = ch.phase := rfl
@[simp] theorem writeStage_stg (ch : Channel) (j : Nat) (v : Word) : (writeStage ch j v).stg = ch.stg := rfl
@[simp] theorem writeStage_actLen (ch : Channel) (j : Nat) (v : Word) : (writeStage ch j v).actLen = ch.actLen := rfl
@[simp] theorem writeStage_txBusy (ch : Channel) (j : Nat) (v : Word) : (writeStage ch j v).txBusy = ch.txBusy := rfl
@[simp] theorem writeStage_txSym (ch : Channel) (j : Nat) (v : Word) : (writeStage ch j v).txSym = ch.txSym := rfl
@[simp] theorem writeStage_txSamp (ch : Channel) (j : Nat) (v : Word) : (writeStage ch j v).txSamp = ch.txSamp := rfl
@[simp] theorem writeStage_rx (ch : Channel) (j : Nat) (v : Word) : (writeStage ch j v).rx = ch.rx := rfl
@[simp] theorem writeStage_rxq (ch : Channel) (j : Nat) (v : Word) : (writeStage ch j v).rxq = ch.rxq := rfl
@[simp] theorem writeStage_rxqDrops (ch : Channel) (j : Nat) (v : Word) : (writeStage ch j v).rxqDrops = ch.rxqDrops := rfl

/-! ### Conditional channel updates: what they never touch -/

@[simp] theorem cursorAdvance_baseFreq (ch : Channel) : (cursorAdvance ch).baseFreq = ch.baseFreq := by
  unfold cursorAdvance; split <;> rfl
@[simp] theorem cursorAdvance_freqSpacing (ch : Channel) : (cursorAdvance ch).freqSpacing = ch.freqSpacing := by
  unfold cursorAdvance; split <;> rfl
@[simp] theorem cursorAdvance_symbolRate (ch : Channel) : (cursorAdvance ch).symbolRate = ch.symbolRate := by
  unfold cursorAdvance; split <;> rfl
@[simp] theorem cursorAdvance_order (ch : Channel) : (cursorAdvance ch).order = ch.order := by
  unfold cursorAdvance; split <;> rfl
@[simp] theorem cursorAdvance_frameLen (ch : Channel) : (cursorAdvance ch).frameLen = ch.frameLen := by
  unfold cursorAdvance; split <;> rfl
@[simp] theorem cursorAdvance_txLen (ch : Channel) : (cursorAdvance ch).txLen = ch.txLen := by
  unfold cursorAdvance; split <;> rfl
@[simp] theorem cursorAdvance_phaseSel (ch : Channel) : (cursorAdvance ch).phaseSel = ch.phaseSel := by
  unfold cursorAdvance; split <;> rfl
@[simp] theorem cursorAdvance_joined (ch : Channel) : (cursorAdvance ch).joined = ch.joined := by
  unfold cursorAdvance; split <;> rfl
@[simp] theorem cursorAdvance_orderAct (ch : Channel) : (cursorAdvance ch).orderAct = ch.orderAct := by
  unfold cursorAdvance; split <;> rfl
@[simp] theorem cursorAdvance_pAct (ch : Channel) : (cursorAdvance ch).pAct = ch.pAct := by
  unfold cursorAdvance; split <;> rfl
@[simp] theorem cursorAdvance_frameAct (ch : Channel) : (cursorAdvance ch).frameAct = ch.frameAct := by
  unfold cursorAdvance; split <;> rfl
@[simp] theorem cursorAdvance_ftw (ch : Channel) : (cursorAdvance ch).ftw = ch.ftw := by
  unfold cursorAdvance; split <;> rfl
@[simp] theorem cursorAdvance_nyqWarn (ch : Channel) : (cursorAdvance ch).nyqWarn = ch.nyqWarn := by
  unfold cursorAdvance; split <;> rfl
@[simp] theorem cursorAdvance_phase (ch : Channel) : (cursorAdvance ch).phase = ch.phase := by
  unfold cursorAdvance; split <;> rfl
@[simp] theorem cursorAdvance_txb (ch : Channel) : (cursorAdvance ch).txb = ch.txb := by
  unfold cursorAdvance; split <;> rfl
@[simp] theorem cursorAdvance_stg (ch : Channel) : (cursorAdvance ch).stg = ch.stg := by
  unfold cursorAdvance; split <;> rfl
@[simp] theorem cursorAdvance_actLen (ch : Channel) : (cursorAdvance ch).actLen = ch.actLen := by
  unfold cursorAdvance; split <;> rfl
@[simp] theorem cursorAdvance_rx (ch : Channel) : (cursorAdvance ch).rx = ch.rx := by
  unfold cursorAdvance; split <;> rfl
@[simp] theorem cursorAdvance_rxq (ch : Channel) : (cursorAdvance ch).rxq = ch.rxq := by
  unfold cursorAdvance; split <;> rfl
@[simp] theorem cursorAdvance_rxqDrops (ch : Channel) : (cursorAdvance ch).rxqDrops = ch.rxqDrops := by
  unfold cursorAdvance; split <;> rfl

@[simp] theorem windowCheck_baseFreq (ch : Channel) : (windowCheck ch).baseFreq = ch.baseFreq := by
  unfold windowCheck; split <;> rfl
@[simp] theorem windowCheck_freqSpacing (ch : Channel) : (windowCheck ch).freqSpacing = ch.freqSpacing := by
  unfold windowCheck; split <;> rfl
@[simp] theorem windowCheck_symbolRate (ch : Channel) : (windowCheck ch).symbolRate = ch.symbolRate := by
  unfold windowCheck; split <;> rfl
@[simp] theorem windowCheck_order (ch : Channel) : (windowCheck ch).order = ch.order := by
  unfold windowCheck; split <;> rfl
@[simp] theorem windowCheck_frameLen (ch : Channel) : (windowCheck ch).frameLen = ch.frameLen := by
  unfold windowCheck; split <;> rfl
@[simp] theorem windowCheck_txLen (ch : Channel) : (windowCheck ch).txLen = ch.txLen := by
  unfold windowCheck; split <;> rfl
@[simp] theorem windowCheck_phaseSel (ch : Channel) : (windowCheck ch).phaseSel = ch.phaseSel := by
  unfold windowCheck; split <;> rfl
@[simp] theorem windowCheck_joined (ch : Channel) : (windowCheck ch).joined = ch.joined := by
  unfold windowCheck; split <;> rfl
@[simp] theorem windowCheck_orderAct (ch : Channel) : (windowCheck ch).orderAct = ch.orderAct := by
  unfold windowCheck; split <;> rfl
@[simp] theorem windowCheck_pAct (ch : Channel) : (windowCheck ch).pAct = ch.pAct := by
  unfold windowCheck; split <;> rfl
@[simp] theorem windowCheck_frameAct (ch : Channel) : (windowCheck ch).frameAct = ch.frameAct := by
  unfold windowCheck; split <;> rfl
@[simp] theorem windowCheck_ftw (ch : Channel) : (windowCheck ch).ftw = ch.ftw := by
  unfold windowCheck; split <;> rfl
@[simp] theorem windowCheck_nyqWarn (ch : Channel) : (windowCheck ch).nyqWarn = ch.nyqWarn := by
  unfold windowCheck; split <;> rfl
@[simp] theorem windowCheck_phase (ch : Channel) : (windowCheck ch).phase = ch.phase := by
  unfold windowCheck; split <;> rfl
@[simp] theorem windowCheck_txb (ch : Channel) : (windowCheck ch).txb = ch.txb := by
  unfold windowCheck; split <;> rfl
@[simp] theorem windowCheck_stg (ch : Channel) : (windowCheck ch).stg = ch.stg := by
  unfold windowCheck; split <;> rfl
@[simp] theorem windowCheck_actLen (ch : Channel) : (windowCheck ch).actLen = ch.actLen := by
  unfold windowCheck; split <;> rfl
@[simp] theorem windowCheck_txBusy (ch : Channel) : (windowCheck ch).txBusy = ch.txBusy := by
  unfold windowCheck; split <;> rfl
@[simp] theorem windowCheck_txSym (ch : Channel) : (windowCheck ch).txSym = ch.txSym := by
  unfold windowCheck; split <;> rfl
@[simp] theorem windowCheck_txSamp (ch : Channel) : (windowCheck ch).txSamp = ch.txSamp := by
  unfold windowCheck; split <;> rfl
@[simp] theorem windowCheck_rxq (ch : Channel) : (windowCheck ch).rxq = ch.rxq := by
  unfold windowCheck; split <;> rfl
@[simp] theorem windowCheck_rxqDrops (ch : Channel) : (windowCheck ch).rxqDrops = ch.rxqDrops := by
  unfold windowCheck; split <;> rfl

/-! ### Reading a channel back -/

theorem chan_eq_getElem (s : State) (c : Chan) : s.chan c = s.chans[c.val] := rfl

@[simp] theorem chan_setChan_self (s : State) (c : Chan) (ch : Channel) : (s.setChan c ch).chan c = ch := by
  simp [State.chan]

theorem chan_setChan_of_ne (s : State) {c d : Chan} (h : d ≠ c) (ch : Channel) : (s.setChan c ch).chan d = s.chan d := by
  have hv : c.val ≠ d.val := fun e => h (Fin.ext e.symm)
  simp [State.chan, Vector.getElem_set_ne, hv]

@[simp] theorem chan_setChans (s : State) (f : Chan → Channel) (c : Chan) : (s.setChans f).chan c = f c := by
  simp [State.chan]

@[simp] theorem chan_raise (s : State) (b : Word) (c : Chan) : (s.raise b).chan c = s.chan c := rfl

@[simp] theorem chan_complete (op : Byte) (ch : BitVec 4) (code : ResultCode) (s : State) (c : Chan) :
    (complete op ch code s).chan c = s.chan c := rfl

@[simp] theorem chan_setFifo (s : State) (id : FifoId) (f : Fifo) (c : Chan) : (s.setFifo id f).chan c = s.chan c := by
  cases id <;> rfl

@[simp] theorem chan_rxFeed (s : State) (x : Sample) (c : Chan) : (s.rxFeed x).chan c = (s.rxSlot x c).chan := by
  simp [State.chan]

@[simp] theorem chan_txProduce (s : State) (c : Chan) : s.txProduce.chan c = (s.txSlot c).chan := by
  simp [State.chan]

@[simp] theorem chan_assertReset (s : State) (c : Chan) : s.assertReset.chan c = Channel.reset := by
  simp [State.chan, State.reset]

@[simp] theorem chan_reset (c : Chan) : State.reset.chan c = Channel.reset := by
  simp [State.chan, State.reset]

/-! ### Reading a FIFO back -/

@[simp] theorem fifo_setFifo_self (s : State) (id : FifoId) (f : Fifo) : (s.setFifo id f).fifo id = f := by
  cases id <;> rfl

theorem fifo_setFifo_of_ne (s : State) {id jd : FifoId} (h : jd ≠ id) (f : Fifo) :
    (s.setFifo id f).fifo jd = s.fifo jd := by
  cases id <;> cases jd <;> first | rfl | exact absurd rfl h

@[simp] theorem fifo_setChan (s : State) (c : Chan) (ch : Channel) (id : FifoId) : (s.setChan c ch).fifo id = s.fifo id := by
  cases id <;> rfl

@[simp] theorem fifo_complete (op : Byte) (ch : BitVec 4) (code : ResultCode) (s : State) (id : FifoId) :
    (complete op ch code s).fifo id = s.fifo id := by
  cases id <;> rfl

@[simp] theorem fifo_raise (s : State) (b : Word) (id : FifoId) : (s.raise b).fifo id = s.fifo id := by
  cases id <;> rfl

@[simp] theorem fifo_rxFeed (s : State) (x : Sample) (id : FifoId) : (s.rxFeed x).fifo id = s.fifo id := by
  cases id <;> rfl

@[simp] theorem fifo_reset (id : FifoId) : State.reset.fifo id = Fifo.reset := by
  cases id <;> rfl

@[simp] theorem fifo_assertReset (s : State) (id : FifoId) : s.assertReset.fifo id = Fifo.reset := by
  cases id <;> rfl

end Sys2Proof.Machine
end

