-- ==== Sys2Proof/Laws/Memory.lean ====
section
/-! SUPPORT. The laws of the stores: read after write, the frame of a write, and that every memory operation keeps the
canonical form. -/

namespace Sys2Proof.Machine

theorem storeRead_write_self {α : Type} (k : Nat) (v : α) (m : List (Nat × α)) :
    storeRead (storeWrite k v m) k = some v := by
  induction m with
  | nil => simp [storeWrite, storeRead]
  | cons e rest ih =>
    obtain ⟨a, x⟩ := e
    simp only [storeWrite]
    split
    · simp [storeRead]
    · split
      · simp [storeRead]
      · simp only [storeRead]
        rw [if_neg (by omega), ih]

theorem storeRead_write_of_ne {α : Type} {k j : Nat} (h : j ≠ k) (v : α) (m : List (Nat × α)) :
    storeRead (storeWrite k v m) j = storeRead m j := by
  induction m with
  | nil => simp [storeWrite, storeRead, Ne.symm h]
  | cons e rest ih =>
    obtain ⟨a, x⟩ := e
    simp only [storeWrite]
    split
    · simp [storeRead, Ne.symm h]
    · split
      · subst_vars; simp [storeRead, Ne.symm h]
      · simp only [storeRead, ih]

theorem storeRising_mono {α : Type} {lo lo' : Nat} (h : lo' ≤ lo) (m : List (Nat × α)) (hm : storeRising lo m = true) :
    storeRising lo' m = true := by
  cases m with
  | nil => rfl
  | cons e rest =>
    obtain ⟨a, x⟩ := e
    simp only [storeRising, Bool.and_eq_true, decide_eq_true_eq] at hm ⊢
    exact ⟨by omega, hm.2⟩

theorem storeRising_write {α : Type} (lo k : Nat) (v : α) (m : List (Nat × α)) (hlo : lo ≤ k)
    (hm : storeRising lo m = true) : storeRising lo (storeWrite k v m) = true := by
  induction m generalizing lo with
  | nil => simp [storeWrite, storeRising, hlo]
  | cons e rest ih =>
    obtain ⟨a, x⟩ := e
    simp only [storeRising, Bool.and_eq_true, decide_eq_true_eq] at hm
    simp only [storeWrite]
    split
    · simp only [storeRising, Bool.and_eq_true, decide_eq_true_eq]
      exact ⟨hlo, by omega, hm.2⟩
    · split
      · subst_vars; simp [storeRising, hlo, hm.2]
      · simp only [storeRising, Bool.and_eq_true, decide_eq_true_eq]
        exact ⟨hm.1, ih (a + 1) (by omega) hm.2⟩

theorem all_below_write {α : Type} (n k : Nat) (v : α) (m : List (Nat × α)) (hk : k < n)
    (hm : m.all (fun e => decide (e.1 < n)) = true) :
    (storeWrite k v m).all (fun e => decide (e.1 < n)) = true := by
  induction m with
  | nil => simp [storeWrite, hk]
  | cons e rest ih =>
    obtain ⟨a, x⟩ := e
    simp only [List.all_cons, Bool.and_eq_true, decide_eq_true_eq] at hm
    simp only [storeWrite]
    split
    · simp only [List.all_cons, Bool.and_eq_true, decide_eq_true_eq]; exact ⟨hk, hm.1, hm.2⟩
    · split
      · simp only [List.all_cons, Bool.and_eq_true, decide_eq_true_eq]; exact ⟨hk, hm.2⟩
      · simp only [List.all_cons, Bool.and_eq_true, decide_eq_true_eq]; exact ⟨hm.1, ih hm.2⟩

/-- A write below the bound keeps the canonical form. -/
theorem storeWf_write {α : Type} (n k : Nat) (v : α) (m : List (Nat × α)) (hk : k < n) (hm : storeWf n m = true) :
    storeWf n (storeWrite k v m) = true := by
  simp only [storeWf, Bool.and_eq_true] at hm ⊢
  exact ⟨storeRising_write 0 k v m (Nat.zero_le _) hm.1, all_below_write n k v m hk hm.2⟩

/-- A canonical store lists no address twice: what lies below its first address is unwritten. -/
theorem storeRead_below {α : Type} (lo k : Nat) (m : List (Nat × α)) (hm : storeRising lo m = true) (hk : k < lo) :
    storeRead m k = none := by
  induction m generalizing lo with
  | nil => rfl
  | cons e rest ih =>
    obtain ⟨a, x⟩ := e
    simp only [storeRising, Bool.and_eq_true, decide_eq_true_eq] at hm
    simp only [storeRead]
    rw [if_neg (by omega)]
    exact ih (a + 1) hm.2 (by omega)

/-- Equal contents are equal lists, in canonical form. -/
theorem store_ext {α : Type} (lo : Nat) (m m' : List (Nat × α)) (hm : storeRising lo m = true)
    (hm' : storeRising lo m' = true) (h : ∀ k, storeRead m k = storeRead m' k) : m = m' := by
  induction m generalizing lo m' with
  | nil =>
    cases m' with
    | nil => rfl
    | cons e rest => obtain ⟨a, x⟩ := e; have := h a; simp [storeRead] at this
  | cons e rest ih =>
    obtain ⟨a, x⟩ := e
    cases m' with
    | nil => have := h a; simp [storeRead] at this
    | cons e' rest' =>
      obtain ⟨b, y⟩ := e'
      simp only [storeRising, Bool.and_eq_true, decide_eq_true_eq] at hm hm'
      have hab : a = b := by
        rcases Nat.lt_trichotomy a b with hlt | heq | hgt
        · have := h a
          simp only [storeRead, if_true] at this
          rw [if_neg (by omega), storeRead_below (b + 1) a rest' hm'.2 (by omega)] at this
          exact absurd this (by simp)
        · exact heq
        · have := h b
          simp only [storeRead, if_true] at this
          rw [if_neg (by omega), storeRead_below (a + 1) b rest hm.2 (by omega)] at this
          exact absurd this (by simp)
      subst hab
      have hxy : x = y := by have := h a; simpa [storeRead] using this
      subst hxy
      rw [ih (a + 1) rest' hm.2 hm'.2]
      intro k
      by_cases hk : a = k
      · subst hk
        rw [storeRead_below (a + 1) a rest hm.2 (by omega), storeRead_below (a + 1) a rest' hm'.2 (by omega)]
      · have := h k
        simpa [storeRead, hk] using this

/-! ### The transmit banks -/

theorem txbKey_lt (bank : Bool) (k : Byte) : txbKey bank k < 512 := by
  unfold txbKey
  have := k.isLt
  split <;> omega

theorem txbKey_inj {b b' : Bool} {k k' : Byte} (h : txbKey b k = txbKey b' k') : b = b' ∧ k = k' := by
  unfold txbKey at h
  have h1 := k.isLt
  have h2 := k'.isLt
  cases b <;> cases b' <;> simp only [Bool.false_eq_true, if_true, if_false] at h
  · exact ⟨rfl, BitVec.eq_of_toNat_eq (by omega)⟩
  · omega
  · omega
  · exact ⟨rfl, BitVec.eq_of_toNat_eq (by omega)⟩

theorem txbWrite_wf (m : Memory) (bank : Bool) (k v : Byte) (hm : m.wf = true) : (txbWrite m bank k v).wf = true :=
  storeWf_write 512 _ v m (txbKey_lt bank k) hm

@[simp] theorem txbRead_write_self (epoch c : Nat) (m : Memory) (bank : Bool) (k v : Byte) :
    txbRead epoch c (txbWrite m bank k v) bank k = v := by
  simp [txbRead, txbWrite, storeRead_write_self]

theorem txbRead_write_of_ne (epoch c : Nat) (m : Memory) {b b' : Bool} {k k' : Byte} (h : b' ≠ b ∨ k' ≠ k) (v : Byte) :
    txbRead epoch c (txbWrite m b k v) b' k' = txbRead epoch c m b' k' := by
  have hne : txbKey b' k' ≠ txbKey b k := fun e => by
    obtain ⟨h1, h2⟩ := txbKey_inj e
    exact h.elim (fun g => g h1) (fun g => g h2)
  simp [txbRead, txbWrite, storeRead_write_of_ne hne]

/-- A staging-window write keeps the canonical form. -/
theorem writeStage_wf (ch : Channel) (j : Nat) (v : Word) (hm : ch.txb.wf = true) : (writeStage ch j v).txb.wf = true := by
  simp only [writeStage, List.foldl_cons, List.foldl_nil]
  exact txbWrite_wf _ _ _ _ (txbWrite_wf _ _ _ _ (txbWrite_wf _ _ _ _ (txbWrite_wf _ _ _ _ hm)))

theorem reset_txb_wf (c : Chan) : (State.reset.chan c).txb.wf = true := by
  rw [chan_reset]; rfl

end Sys2Proof.Machine
end

