-- ==== Sys2Proof/Laws/Commands.lean ====
section
/-! SUPPORT. What the shared operations of the commands can do: one lemma for each, which later proofs cite. -/

namespace Sys2Proof.Machine

/-- A channel operand below 4 names that channel. -/
theorem chanOperand_val (c : Chan) : chanOperand c.val = some c := by simp [chanOperand]

theorem chanOperand_none {ch : Nat} (h : 4 ≤ ch) : chanOperand ch = none := by
  simp [chanOperand, Nat.not_lt.mpr h]

theorem chanOperand_cases (ch : Nat) : (4 ≤ ch ∧ chanOperand ch = none) ∨ ∃ c : Chan, c.val = ch ∧ chanOperand ch = some c := by
  by_cases h : ch < 4
  · exact .inr ⟨⟨ch, h⟩, rfl, by simp [chanOperand, h]⟩
  · exact .inl ⟨by omega, by simp [chanOperand, h]⟩

/-- A channel command on an existing channel. -/
theorem channelCommand_val (op : Byte) (c : Chan) (s : State) (body : Chan → State → ResultCode × State) :
    channelCommand op c.val s body = complete op (BitVec.ofNat 4 c.val) (body c s).1 (body c s).2 := by
  simp [channelCommand, chanOperand_val]

/-- A channel command on a channel that does not exist. -/
theorem channelCommand_bad (op : Byte) {ch : Nat} (h : 4 ≤ ch) (s : State) (body : Chan → State → ResultCode × State) :
    channelCommand op ch s body = complete op (BitVec.ofNat 4 ch) .badChannel s := by
  simp [channelCommand, chanOperand_none h]

/-- A completion with OK changes only CMD_RESULT. -/
theorem complete_ok (op : Byte) (ch : BitVec 4) (s : State) :
    complete op ch .ok s = { s with cmdResult := resultWord op ch .ok } := by
  simp [complete]

/-- A completion with an error code sets CMD_ERR as well. -/
theorem complete_error (op : Byte) (ch : BitVec 4) {code : ResultCode} (h : code ≠ .ok) (s : State) :
    complete op ch code s =
      { s with cmdResult := resultWord op ch code, irqStatus := s.irqStatus ||| cmdErrBit } := by
  simp [complete, h]

/-- All that JOIN's body can do. -/
theorem joinCore_cases (c : Chan) (s : State) :
    (joinCheck s.sampleRate (s.chan c) = .ok ∧
      joinCore c s = (.ok, s.setChan c (joinChannel s.sampleRate (s.chan c)))) ∨
    (joinCheck s.sampleRate (s.chan c) ≠ .ok ∧ joinCore c s = (joinCheck s.sampleRate (s.chan c), s)) := by
  unfold joinCore
  by_cases h : joinCheck s.sampleRate (s.chan c) = .ok <;> simp [h]

/-- All that LEAVE's body can do. -/
theorem leaveCore_cases (c : Chan) (s : State) :
    ((s.chan c).joined = true ∧ leaveCore c s = (.ok, s.setChan c (leaveChannel (s.chan c)))) ∨
    ((s.chan c).joined = false ∧ leaveCore c s = (.notJoined, s)) := by
  unfold leaveCore
  cases h : (s.chan c).joined <;> simp

/-- All that send_core can do. -/
theorem sendCore_cases (c : Chan) (s : State) :
    (256 < (s.chan c).txLen.toNat ∧ sendCore c s = (.lenRange, s)) ∨
    ((s.chan c).txLen.toNat ≤ 256 ∧ sendCore c s =
      (.ok, (s.setChan c (startMessage (s.chan c))).raise (if (s.chan c).txLen = 0 then txDoneBit c else 0))) := by
  unfold sendCore
  by_cases h : 256 < (s.chan c).txLen.toNat
  · exact .inl ⟨h, by simp [h]⟩
  · exact .inr ⟨by omega, by simp [h]⟩

/-- All that SEND's body can do. -/
theorem sendJoined_cases (c : Chan) (s : State) :
    ((s.chan c).joined = true ∧ sendJoined c s = sendCore c s) ∨
    ((s.chan c).joined = false ∧ sendJoined c s = (.notJoined, s)) := by
  unfold sendJoined
  cases h : (s.chan c).joined <;> simp

/-- All that RX_RESET's body can do. -/
theorem rxResetCore_cases (c : Chan) (s : State) :
    ((s.chan c).joined = true ∧ rxResetCore c s = (.ok, s.setChan c (s.chan c).rxClear)) ∨
    ((s.chan c).joined = false ∧ rxResetCore c s = (.notJoined, s)) := by
  unfold rxResetCore
  cases h : (s.chan c).joined <;> simp

/-- All that RXQ_POP's body can do. -/
theorem rxqPopCore_cases (c : Chan) (s : State) :
    ((s.chan c).joined = true ∧ (∃ m rest, (s.chan c).rxq = m :: rest ∧
      rxqPopCore c s = (.ok, s.setChan c { s.chan c with rxq := rest }))) ∨
    ((s.chan c).joined = true ∧ (s.chan c).rxq = [] ∧ rxqPopCore c s = (.rxqEmpty, s)) ∨
    ((s.chan c).joined = false ∧ rxqPopCore c s = (.notJoined, s)) := by
  unfold rxqPopCore
  cases h : (s.chan c).joined
  · simp
  · cases hq : (s.chan c).rxq <;> simp

/-- All that one turn of BROADCAST's loop can do. -/
theorem broadcastTurn_cases (code : ResultCode) (s : State) (c : Chan) :
    ((s.chan c).joined = false ∧ broadcastTurn (code, s) c = (code, s)) ∨
    ((s.chan c).joined = true ∧ 256 < (s.chan c).txLen.toNat ∧ broadcastTurn (code, s) c = (.lenRange, s)) ∨
    ((s.chan c).joined = true ∧ (s.chan c).txLen.toNat ≤ 256 ∧ broadcastTurn (code, s) c =
      (code, (s.setChan c (startMessage (s.chan c))).raise (if (s.chan c).txLen = 0 then txDoneBit c else 0))) := by
  unfold broadcastTurn
  cases h : (s.chan c).joined
  · exact .inl ⟨rfl, by simp⟩
  · rcases sendCore_cases c s with ⟨hl, he⟩ | ⟨hl, he⟩
    · exact .inr (.inl ⟨rfl, hl, by simp [he]⟩)
    · exact .inr (.inr ⟨rfl, hl, by simp [he]⟩)

/-- BROADCAST's loop, turn by turn. -/
theorem broadcastAll_eq (s : State) :
    broadcastAll s = broadcastTurn (broadcastTurn (broadcastTurn (broadcastTurn (.ok, s) 0) 1) 2) 3 := rfl

/-- Every command answers a next state, and that state is a completion. -/
theorem exec_completes (i : Instr) (s : State) :
    ∃ (code : ResultCode) (u : State), exec i s = .next (complete i.op (BitVec.ofNat 4 i.chan) code u) := by
  have key : ∀ (op : Byte) (ch : Nat) (body : Chan → State → ResultCode × State),
      ∃ (code : ResultCode) (u : State), channelCommand op ch s body = complete op (BitVec.ofNat 4 ch) code u := by
    intro op ch body
    rcases chanOperand_cases ch with ⟨-, h⟩ | ⟨c, -, h⟩
    · exact ⟨.badChannel, s, by simp [channelCommand, h]⟩
    · exact ⟨(body c s).1, (body c s).2, by simp [channelCommand, h]⟩
  cases i with
  | nop => exact ⟨.ok, s, rfl⟩
  | join ch => obtain ⟨code, u, h⟩ := key 0x01 ch joinCore; exact ⟨code, u, congrArg Host.Outcome.next h⟩
  | leave ch => obtain ⟨code, u, h⟩ := key 0x02 ch leaveCore; exact ⟨code, u, congrArg Host.Outcome.next h⟩
  | send ch => obtain ⟨code, u, h⟩ := key 0x03 ch sendJoined; exact ⟨code, u, congrArg Host.Outcome.next h⟩
  | broadcast => exact ⟨(broadcastAll s).1, (broadcastAll s).2, rfl⟩
  | rxReset ch => obtain ⟨code, u, h⟩ := key 0x05 ch rxResetCore; exact ⟨code, u, congrArg Host.Outcome.next h⟩
  | rxqPop ch => obtain ⟨code, u, h⟩ := key 0x06 ch rxqPopCore; exact ⟨code, u, congrArg Host.Outcome.next h⟩
  | rxfDiscard => exact ⟨.ok, { s with rxf := s.rxf.discard }, rfl⟩

end Sys2Proof.Machine
end

