-- ==== Sys2Proof/Laws/Bus.lean ====
section
/-! SUPPORT. What a host access can do. -/

namespace Sys2Proof.Machine

/-- The registers whose write changes nothing (R105, R106). -/
def readOnlyReg : Reg → Bool
  | .id => true
  | .params => true
  | .ctrl => false
  | .status => true
  | .sampleRate => false
  | .cmd => false
  | .cmdResult => true
  | .irqStatus => false
  | .irqEnable => false
  | .sampleCnt => true
  | .rxSampleCnt => true
  | .chan _ r =>
    match r with
    | .baseFreq => false
    | .freqSpacing => false
    | .symbolRate => false
    | .order => false
    | .frameLen => false
    | .txLen => false
    | .chStatus => true
    | .symbolPeriod => true
    | .rxqDrops => true
    | .phaseSel => false
    | .phaseRd => true
    | .ftwRd => true
    | .txPos => true
    | .rxWin => true
    | .rxChunk => true
    | .rxFramePos => true
  | .headWin _ _ => true
  | .stageWin _ _ => false
  | .reserved => true

@[simp] theorem setChan_chan_self (s : State) (c : Chan) : s.setChan c (s.chan c) = s := by
  simp [State.setChan, State.chan]

/-- A write to a read-only or reserved offset changes nothing. -/
theorem writeReg_readOnly (s : State) (v : Word) (r : Reg) (h : readOnlyReg r = true) : writeReg s v r = .next s := by
  cases r with
  | chan c r =>
    cases r <;> first | exact Bool.noConfusion h | exact congrArg Host.Outcome.next (setChan_chan_self s c)
  | _ => first | exact Bool.noConfusion h | rfl

/-- All that a CMD write can do: run the command the word encodes, or report an illegal word. -/
theorem commandWrite_cases (w : Word) (s : State) :
    (∃ i, decode w = .ok i ∧ commandWrite w s = exec i s) ∨
    (∃ e, decode w = .error e ∧ commandWrite w s = .next (illegalCommand w s)) := by
  unfold commandWrite
  cases h : decode w with
  | ok i => exact .inl ⟨i, rfl, rfl⟩
  | error e => exact .inr ⟨e, rfl, rfl⟩

/-- Every register write answers a next state. -/
theorem writeReg_next (s : State) (v : Word) (r : Reg) : ∃ t, writeReg s v r = .next t := by
  cases r with
  | cmd =>
    rcases commandWrite_cases v s with ⟨i, -, h⟩ | ⟨e, -, h⟩
    · obtain ⟨code, u, hu⟩ := exec_completes i s
      exact ⟨_, h.trans hu⟩
    · exact ⟨_, h⟩
  | _ => exact ⟨_, rfl⟩

/-- All that a HOST step can do. -/
theorem hostStep_cases (op : HostOp) (s : State) :
    (∃ off, op = .read off ∧ inWindow off = true ∧
      hostStep op s = .next { s with readStream := readReg s (regAt (offsetBits off)) :: s.readStream }) ∨
    (∃ off v, op = .write off v ∧ inWindow off = true ∧ hostStep op s = writeReg s v (regAt (offsetBits off))) ∨
    (∃ r, hostStep op s = .refused r) := by
  cases op with
  | read off =>
    cases h : inWindow off
    · exact .inr (.inr ⟨_, by simp [hostStep, h]; rfl⟩)
    · exact .inl ⟨off, rfl, h, by simp [hostStep, h]⟩
  | write off v =>
    cases h : inWindow off
    · exact .inr (.inr ⟨_, by simp [hostStep, h]; rfl⟩)
    · exact .inr (.inl ⟨off, v, rfl, h, by simp [hostStep, h]⟩)
  | narrow off bits => exact .inr (.inr ⟨_, rfl⟩)

/-- The offset of CMD names CMD. -/
theorem regAt_cmd : regAt (offsetBits cmdOffset) = .cmd := by decide

/-- A write to CMD is a command write. -/
theorem hostStep_cmd (w : Word) (s : State) : hostStep (.write cmdOffset w) s = commandWrite w s := by
  simp only [hostStep, regAt_cmd]
  rw [if_pos (by decide)]
  rfl

end Sys2Proof.Machine
end

