-- ==== Sys2Proof/Laws/Fifo.lean ====
section
/-! SUPPORT. The laws of the FIFO operations: what each does to the pointers, that each keeps the bounds of R381, the
canonical form of the memory, and what a read after a push gives. -/

namespace Sys2Proof.Machine

open Sys2Proof.Safety

@[simp] theorem push_w (f : Fifo) (v : Sample) : (f.push v).w = f.w + 1 := rfl
@[simp] theorem push_r (f : Fifo) (v : Sample) : (f.push v).r = f.r := rfl
@[simp] theorem push_viewR (f : Fifo) (v : Sample) : (f.push v).viewR = f.viewR := rfl
@[simp] theorem push_viewW (f : Fifo) (v : Sample) : (f.push v).viewW = f.viewW := rfl
@[simp] theorem advance_w (f : Fifo) : f.advance.w = f.w := rfl
@[simp] theorem advance_r (f : Fifo) : f.advance.r = f.r + 1 := rfl
@[simp] theorem advance_viewR (f : Fifo) : f.advance.viewR = f.viewR := rfl
@[simp] theorem advance_viewW (f : Fifo) : f.advance.viewW = f.viewW := rfl
@[simp] theorem advance_mem (f : Fifo) : f.advance.mem = f.mem := rfl
@[simp] theorem discard_w (f : Fifo) : f.discard.w = f.w := rfl
@[simp] theorem discard_r (f : Fifo) : f.discard.r = f.viewW := rfl
@[simp] theorem discard_viewR (f : Fifo) : f.discard.viewR = f.viewR := rfl
@[simp] theorem discard_viewW (f : Fifo) : f.discard.viewW = f.viewW := rfl
@[simp] theorem discard_mem (f : Fifo) : f.discard.mem = f.mem := rfl

/-- All that SYNC_W can do: move the reader's view to an admitted value, or nothing. -/
theorem syncW_cases (f : Fifo) (v : Ptr) :
    ((v - f.viewW).toNat ≤ (f.w - f.viewW).toNat ∧ f.syncW v = { f with viewW := v }) ∨ f.syncW v = f := by
  unfold Fifo.syncW
  split
  · exact .inl ⟨‹_›, rfl⟩
  · exact .inr rfl

/-- All that SYNC_R can do: move the writer's view to an admitted value, or nothing. -/
theorem syncR_cases (f : Fifo) (v : Ptr) :
    ((v - f.viewR).toNat ≤ (f.r - f.viewR).toNat ∧ f.syncR v = { f with viewR := v }) ∨ f.syncR v = f := by
  unfold Fifo.syncR
  split
  · exact .inl ⟨‹_›, rfl⟩
  · exact .inr rfl

theorem fifoIndex_lt (p : Ptr) : fifoIndex p < 64 := Nat.mod_lt _ (by omega)

theorem push_mem_wf (f : Fifo) (v : Sample) (h : storeWf 64 f.mem = true) : storeWf 64 (f.push v).mem = true :=
  storeWf_write 64 _ v _ (fifoIndex_lt _) h

theorem syncW_mem (f : Fifo) (v : Ptr) : (f.syncW v).mem = f.mem := by
  rcases syncW_cases f v with ⟨-, h⟩ | h <;> rw [h]

theorem syncR_mem (f : Fifo) (v : Ptr) : (f.syncR v).mem = f.mem := by
  rcases syncR_cases f v with ⟨-, h⟩ | h <;> rw [h]

/-! ### The bounds of R381, operation by operation -/

theorem push_lag (f : Fifo) (v : Sample) (h : FifoLag f) (hroom : f.writerLevel < 64) : FifoLag (f.push v) := by
  obtain ⟨h1, h2, h3⟩ := h
  simp only [Fifo.readerLevel, Fifo.occupancy, Fifo.writerLevel] at *
  constructor <;> simp only [Fifo.readerLevel, Fifo.occupancy, Fifo.writerLevel, push_w, push_r, push_viewR, push_viewW] <;>
    bv_omega

theorem advance_lag (f : Fifo) (h : FifoLag f) (hdata : 0 < f.readerLevel) : FifoLag f.advance := by
  obtain ⟨h1, h2, h3⟩ := h
  simp only [Fifo.readerLevel, Fifo.occupancy, Fifo.writerLevel] at *
  constructor <;>
    simp only [Fifo.readerLevel, Fifo.occupancy, Fifo.writerLevel, advance_w, advance_r, advance_viewR, advance_viewW] <;>
    bv_omega

theorem discard_lag (f : Fifo) (h : FifoLag f) : FifoLag f.discard := by
  obtain ⟨h1, h2, h3⟩ := h
  simp only [Fifo.readerLevel, Fifo.occupancy, Fifo.writerLevel] at *
  constructor <;>
    simp only [Fifo.readerLevel, Fifo.occupancy, Fifo.writerLevel, discard_w, discard_r, discard_viewR, discard_viewW] <;>
    bv_omega

theorem syncW_lag (f : Fifo) (v : Ptr) (h : FifoLag f) : FifoLag (f.syncW v) := by
  rcases syncW_cases f v with ⟨hv, he⟩ | he
  · rw [he]
    obtain ⟨h1, h2, h3⟩ := h
    simp only [Fifo.readerLevel, Fifo.occupancy, Fifo.writerLevel] at *
    constructor <;> simp only [Fifo.readerLevel, Fifo.occupancy, Fifo.writerLevel] <;> bv_omega
  · rw [he]; exact h

theorem syncR_lag (f : Fifo) (v : Ptr) (h : FifoLag f) : FifoLag (f.syncR v) := by
  rcases syncR_cases f v with ⟨hv, he⟩ | he
  · rw [he]
    obtain ⟨h1, h2, h3⟩ := h
    simp only [Fifo.readerLevel, Fifo.occupancy, Fifo.writerLevel] at *
    constructor <;> simp only [Fifo.readerLevel, Fifo.occupancy, Fifo.writerLevel] <;> bv_omega
  · rw [he]; exact h

/-! ### Entries -/

/-- The entry a push writes. -/
theorem push_entry_self (epoch : Nat) (id : FifoId) (f : Fifo) (v : Sample) : (f.push v).entry epoch id f.w = v := by
  simp [Fifo.entry, Fifo.push, storeRead_write_self]

/-- A push leaves every other entry. -/
theorem push_entry_of_ne (epoch : Nat) (id : FifoId) (f : Fifo) (v : Sample) (p : Ptr)
    (h : fifoIndex p ≠ fifoIndex f.w) : (f.push v).entry epoch id p = f.entry epoch id p := by
  simp [Fifo.entry, Fifo.push, storeRead_write_of_ne h]

end Sys2Proof.Machine
end

