-- ==== Sys2Proof/Laws/PerInstr.lean ====
section
/-! SUPPORT. Statements made command by command. Family `Row`: the word of a well-formed command matches the match and mask
of its row in spec/opcode_table.json. -/

namespace Sys2Proof.Laws

/-- The mask of a command's row (spec/opcode_table.json, R151). -/
def rowMask : Instr → Word
  | .nop => 0xFFFFFFFF
  | .join _ => 0xFFFFF0FF
  | .leave _ => 0xFFFFF0FF
  | .send _ => 0xFFFFF0FF
  | .broadcast => 0xFFFFFFFF
  | .rxReset _ => 0xFFFFF0FF
  | .rxqPop _ => 0xFFFFF0FF
  | .rxfDiscard => 0xFFFFFFFF

/-- The match value of a command's row (spec/opcode_table.json, R151). -/
def rowMatch : Instr → Word
  | .nop => 0x00000000
  | .join _ => 0x00000001
  | .leave _ => 0x00000002
  | .send _ => 0x00000003
  | .broadcast => 0x00000004
  | .rxReset _ => 0x00000005
  | .rxqPop _ => 0x00000006
  | .rxfDiscard => 0x00000007

/-- The masked word of a channel command does not depend on its CH field. -/
theorem masked_channel_word (op : Byte) (ch : BitVec 4) :
    (0#20 ++ ch ++ op : Word) &&& 0xFFFFF0FF = op.setWidth 32 := by
  revert ch op; decide +kernel

/-- The word of a well-formed command belongs to its row. -/
def Row.Statement (i : Instr) : Prop := i.wf = true → encode i &&& rowMask i = rowMatch i

theorem Row.nop : Row.Statement .nop := by intro _; decide
theorem Row.join (ch : Nat) : Row.Statement (.join ch) := fun _ => masked_channel_word 0x01 _
theorem Row.leave (ch : Nat) : Row.Statement (.leave ch) := fun _ => masked_channel_word 0x02 _
theorem Row.send (ch : Nat) : Row.Statement (.send ch) := fun _ => masked_channel_word 0x03 _
theorem Row.broadcast : Row.Statement .broadcast := by intro _; decide
theorem Row.rxReset (ch : Nat) : Row.Statement (.rxReset ch) := fun _ => masked_channel_word 0x05 _
theorem Row.rxqPop (ch : Nat) : Row.Statement (.rxqPop ch) := fun _ => masked_channel_word 0x06 _
theorem Row.rxfDiscard : Row.Statement .rxfDiscard := by intro _; decide

end Sys2Proof.Laws
end

