-- ==== Sys2Proof/Laws/Sample.lean ====
section
/-! SUPPORT. What the sample steps' operations can do: the cursor, a channel's part in a TX and in an RX sample step, the
window check, the frame and the flush; and the size of the LUT's entries. -/

namespace Sys2Proof.Machine

/-- All that cursor_advance can do: a sample within the symbol, the end of a symbol, or the end of the message. -/
theorem cursorAdvance_cases (ch : Channel) :
    (ch.txSamp + 1 ≠ ch.pAct ∧ cursorDone ch = false ∧ cursorAdvance ch = { ch with txSamp := ch.txSamp + 1 }) ∨
    (ch.txSamp + 1 = ch.pAct ∧ (ch.txSym + 1).toNat ≠ nsymTotal ch.actLen.toNat ch.orderAct.toNat ∧
      cursorDone ch = false ∧ cursorAdvance ch = { ch with txSamp := 0, txSym := ch.txSym + 1 }) ∨
    (ch.txSamp + 1 = ch.pAct ∧ (ch.txSym + 1).toNat = nsymTotal ch.actLen.toNat ch.orderAct.toNat ∧
      cursorDone ch = true ∧ cursorAdvance ch = { ch with txSamp := 0, txSym := ch.txSym + 1, txBusy := false }) := by
  unfold cursorAdvance cursorDone
  by_cases h : ch.txSamp + 1 = ch.pAct
  · by_cases h2 : (ch.txSym + 1).toNat = nsymTotal ch.actLen.toNat ch.orderAct.toNat
    · exact .inr (.inr ⟨h, h2, decide_eq_true ⟨h, h2⟩, by rw [if_pos h, if_pos h2]⟩)
    · exact .inr (.inl ⟨h, h2, decide_eq_false fun g => h2 g.2, by rw [if_pos h, if_neg h2]⟩)
  · exact .inl ⟨h, decide_eq_false fun g => h g.1, by rw [if_neg h]⟩

/-- A channel's part in a TX sample step: silence, or the NCO step. -/
theorem txPart_cases (rd : Nat → Byte) (ch : Channel) :
    (ch.playing = false ∧ txPart rd ch = { sample := 0, chan := ch, done := false }) ∨
    (ch.playing = true ∧ txPart rd ch = ncoStep rd ch) := by
  unfold txPart
  cases h : ch.playing <;> simp

/-- All that the flush can do: append the message, or drop it. -/
theorem flush_cases (ch : Channel) :
    (ch.rxq.length < 10 ∧ flush ch =
      { chan := { ch with rxq := ch.rxq ++ [flushMessage ch], rx := RxState.clear }, msg := true, drop := false }) ∨
    (10 ≤ ch.rxq.length ∧ flush ch =
      { chan := { ch with rxqDrops := if ch.rxqDrops = 0xFFFF then 0xFFFF else ch.rxqDrops + 1, rx := RxState.clear },
        msg := false, drop := true }) := by
  unfold flush
  by_cases h : ch.rxq.length < 10
  · exact .inl ⟨h, by rw [if_pos h]; rfl⟩
  · exact .inr ⟨by omega, by rw [if_neg h]; rfl⟩

/-- All that frame_advance can do: count on, end a frame, or end a frame with a flush. -/
theorem frameAdvance_cases (ch : Channel) :
    (ch.rx.framePos + 1 ≠ ch.frameAct ∧ frameAdvance ch =
      { chan := { ch with rx := { ch.rx with framePos := ch.rx.framePos + 1 } }, msg := false, drop := false }) ∨
    (ch.rx.framePos + 1 = ch.frameAct ∧ ch.rx.chunkCnt.toNat < 4 * ch.pAct.toNat ∧ frameAdvance ch =
      { chan := { ch with rx := { ch.rx with framePos := 0 } }, msg := false, drop := false }) ∨
    (ch.rx.framePos + 1 = ch.frameAct ∧ 4 * ch.pAct.toNat ≤ ch.rx.chunkCnt.toNat ∧
      frameAdvance ch = flush { ch with rx := { ch.rx with framePos := 0 } }) := by
  unfold frameAdvance
  by_cases h : ch.rx.framePos + 1 = ch.frameAct
  · by_cases h2 : 4 * ch.pAct.toNat ≤ ch.rx.chunkCnt.toNat
    · exact .inr (.inr ⟨h, h2, by simp only [h, h2, if_true]⟩)
    · exact .inr (.inl ⟨h, by omega, by simp only [h, h2, if_true, if_false]⟩)
  · exact .inl ⟨h, by simp only [h, if_false]⟩

/-- The window check: nothing, or the symbol decision. -/
theorem windowCheck_cases (ch : Channel) :
    (ch.rx.winN ≠ ch.pAct ∧ windowCheck ch = ch) ∨ (ch.rx.winN = ch.pAct ∧ windowCheck ch = symbolDecide ch) := by
  unfold windowCheck
  by_cases h : ch.rx.winN = ch.pAct <;> simp [h]

/-- A channel's part in rx_feed: nothing, or the correlator step. -/
theorem rxPart_cases (x : Sample) (ch : Channel) :
    (ch.joined = false ∧ rxPart x ch = { chan := ch, msg := false, drop := false }) ∨
    (ch.joined = true ∧ rxPart x ch = correlatorStep x ch) := by
  unfold rxPart
  cases h : ch.joined <;> simp

/-- The TX sample step: it waits, or it produces one sample, which in loopback is also received. -/
theorem txStep_cases (s : State) :
    (s.txEnabled = false ∧ s.txStep = s) ∨
    (s.txEnabled = true ∧ s.loopback = false ∧ s.txStep = s.txProduce) ∨
    (s.txEnabled = true ∧ s.loopback = true ∧ s.txStep = s.txProduce.rxFeed (toSample s.mixed)) := by
  unfold State.txStep
  cases h : s.txEnabled <;> cases h2 : s.loopback <;> simp

/-- The RX sample step: it waits, or it takes the head of RXF and feeds it. -/
theorem rxStep_cases (s : State) :
    (s.rxEnabled = false ∧ s.rxStep = s) ∨
    (s.rxEnabled = true ∧ s.rxStep = { s with rxf := s.rxf.advance }.rxFeed s.rxHead) := by
  unfold State.rxStep
  cases h : s.rxEnabled <;> simp

/-- Every LUT entry lies in [−16384, 16384] (R274). -/
theorem lut_bounds_of_lt : ∀ k < 1024, -16384 ≤ lut k ∧ lut k ≤ 16384 := by decide +kernel

theorem lutIndex_lt (phase : Word) : lutIndex phase < 1024 := (phase.extractLsb' 22 10).isLt

/-- The amplitude of any phase lies in [−16384, 16384]. -/
theorem amp_bounds (phase : Word) : -16384 ≤ amp phase ∧ amp phase ≤ 16384 := lut_bounds_of_lt _ (lutIndex_lt phase)

/-- The symbol the NCO plays at Order `o` is below 2^o. -/
theorem streamBit_lt (rd : Nat → Byte) (len j : Nat) : streamBit rd len j < 2 := by
  unfold streamBit
  split
  · exact Nat.mod_lt _ (by omega)
  · omega

end Sys2Proof.Machine
end

