-- ==== Sys2Proof/Laws/Step.lean ====
section
/-! SUPPORT. What one step can do: the schedule, the pin, and the placed command. -/

namespace Sys2Proof.Machine

/-- A step with a pending head runs that head. -/
theorem step_pending (s : State) (e : Event) (rest : List Event) (h : s.pending = e :: rest) :
    step s = runEvent e { s with pending := rest } := by
  simp [step, scheduledStep, nextEvent, takeEvent, h]

/-- A step with nothing pending runs what the free schedule supplies. -/
theorem step_free (s : State) (h : s.pending = []) :
    step s = runEvent (Config.schedule s.tick) { s with tick := s.tick + 1 } := by
  simp [step, scheduledStep, nextEvent, takeEvent, h]

/-- While rst is asserted, no agent's step occurs. -/
theorem runEvent_held (e : Event) (s : State) (hr : s.rst = true) (he : pinEvent e = false) : runEvent e s = .next s := by
  simp [runEvent, hr, he]

/-- With rst released, or for a change of the pin, the scheduled step runs. -/
theorem runEvent_runs (e : Event) (s : State) (h : s.rst = false ∨ pinEvent e = true) : runEvent e s = agentStep e s := by
  rcases h with h | h <;> simp [runEvent, h]

/-- All that a scheduled step can do. -/
theorem runEvent_cases (e : Event) (s : State) : runEvent e s = .next s ∨ runEvent e s = agentStep e s := by
  unfold runEvent
  split
  · exact .inl rfl
  · exact .inr rfl

/-- A placed command word is the next step's CMD write. -/
theorem step_placeCommand (s : State) (w : Word) :
    step (s.placeCommand w) = commandWrite w { s with rst := false } := by
  rw [step_pending _ (.host (.write cmdOffset w)) s.pending rfl, runEvent_runs _ _ (.inl rfl)]
  exact hostStep_cmd w _

end Sys2Proof.Machine
end

