-- ==== Sys2Proof/Laws/Run.lean ====
section
/-! SUPPORT. What `run N` amounts to (spec/30_encoding.md R157): a stretch that meets `meetsRun N` answers a state whose
sample counters have counted N, and `asmRun` meets `meetsRun N` from every state with EN = 1 whose TXF views lag. -/

namespace Sys2Proof.Machine

open Sys2Proof.Safety

/-! ### One schedule entry between two accesses -/

/-- An entry between two host accesses answers a next state, keeps CTRL and rst, and counts a TX sample step exactly where
one occurs; in loopback the fused RX sample step counts with it. -/
theorem between_step (e : Event) (s : State) (he : betweenAccesses e = true) :
    ∃ t : State, runEvent e s = .next t ∧ t.en = s.en ∧ t.rst = s.rst ∧ t.loopback = s.loopback ∧
      t.sampleCnt = s.sampleCnt + BitVec.ofNat 32 (txOccurs e s).toNat ∧
      (s.loopback = true → t.rxSampleCnt = s.rxSampleCnt + BitVec.ofNat 32 (txOccurs e s).toNat) := by
  by_cases hr : s.rst = true
  · have hp : pinEvent e = false := by cases e <;> simp_all [betweenAccesses, pinEvent]
    have ho : txOccurs e s = false := by cases e <;> simp [txOccurs, hr]
    exact ⟨s, runEvent_held e s hr hp, rfl, rfl, rfl, by simp [ho], fun _ => by simp [ho]⟩
  · rw [runEvent_runs e s (.inl (by simpa using hr))]
    cases e with
    | host op => simp [betweenAccesses] at he
    | rstAssert => simp [betweenAccesses, pinEvent] at he
    | rstRelease => simp [betweenAccesses, pinEvent] at he
    | rstOneDomain d => simp [betweenAccesses, pinEvent] at he
    | tx =>
      refine ⟨_, rfl, ?_⟩
      rcases txStep_cases s with ⟨h, hs⟩ | ⟨h, hl, hs⟩ | ⟨h, hl, hs⟩ <;> rw [hs] <;>
        simp_all [txOccurs, State.rxFeed, State.txProduce, State.raise, State.setChans]
    | rx =>
      refine ⟨_, rfl, ?_⟩
      rcases rxStep_cases s with ⟨-, hs⟩ | ⟨h, hs⟩ <;> rw [hs]
      · simp [txOccurs]
      · have hl : s.loopback = false := by simp_all [State.rxEnabled]
        simp [txOccurs, hl]
    | dac => refine ⟨_, rfl, ?_⟩; simp only [State.dacStep]; split <;> simp [txOccurs]
    | adc x => refine ⟨_, rfl, ?_⟩; simp only [State.adcStep]; split <;> [skip; split] <;> simp [txOccurs]
    | syncW f v => cases f <;> exact ⟨_, rfl, by simp [txOccurs, State.syncWStep, State.setFifo]⟩
    | syncR f v => cases f <;> exact ⟨_, rfl, by simp [txOccurs, State.syncRStep, State.setFifo]⟩
    | syncEnDac => exact ⟨_, rfl, by simp [txOccurs, State.syncEnDac]⟩
    | syncEnAdc => exact ⟨_, rfl, by simp [txOccurs, State.syncEnAdc]⟩
    | syncUnd => refine ⟨_, rfl, ?_⟩; simp only [State.syncUnd]; split <;> simp [txOccurs]
    | syncOvf => refine ⟨_, rfl, ?_⟩; simp only [State.syncOvf]; split <;> simp [txOccurs]

/-! ### A stretch of the schedule -/

/-- Between two host accesses every stretch completes; SAMPLE_CNT counts the TX sample steps that occur in it, and in
loopback RX_SAMPLE_CNT counts their fused RX sample steps. -/
theorem between_run (es : List Event) (s : State) (he : es.all betweenAccesses = true) :
    ∃ t : State, runEvents es s = .next t ∧ t.en = s.en ∧ t.rst = s.rst ∧ t.loopback = s.loopback ∧
      t.sampleCnt = s.sampleCnt + BitVec.ofNat 32 (txOccurring es s) ∧
      (s.loopback = true → t.rxSampleCnt = s.rxSampleCnt + BitVec.ofNat 32 (txOccurring es s)) := by
  induction es generalizing s with
  | nil => exact ⟨s, rfl, rfl, rfl, rfl, by simp [txOccurring], fun _ => by simp [txOccurring]⟩
  | cons e es ih =>
    simp only [List.all_cons, Bool.and_eq_true] at he
    obtain ⟨t, ht, h1, h2, h3, h4, h5⟩ := between_step e s he.1
    obtain ⟨u, hu, g1, g2, g3, g4, g5⟩ := ih t he.2
    refine ⟨u, by simp [runEvents, ht, hu], g1.trans h1, g2.trans h2, g3.trans h3, ?_, fun hl => ?_⟩
    · simp [txOccurring, ht, g4, h4, BitVec.ofNat_add, BitVec.add_assoc]
    · simp [txOccurring, ht, g5 (h3.trans hl), h5 hl, BitVec.ofNat_add, BitVec.add_assoc]

/-- What `run N` gives (R157): it completes, and SAMPLE_CNT has counted N, in loopback RX_SAMPLE_CNT too. -/
theorem meetsRun_counts (n : Nat) (es : List Event) (s : State) (h : meetsRun n es s = true) :
    ∃ t : State, runEvents es s = .next t ∧ t.en = true ∧ t.sampleCnt = s.sampleCnt + BitVec.ofNat 32 n ∧
      (s.loopback = true → t.rxSampleCnt = s.rxSampleCnt + BitVec.ofNat 32 n) := by
  simp only [meetsRun, Bool.and_eq_true, beq_iff_eq] at h
  obtain ⟨t, ht, h1, -, -, h4, h5⟩ := between_run es s h.1.2
  exact ⟨t, ht, h1.trans h.1.1.1, h.2 ▸ h4, h.2 ▸ h5⟩

/-! ### The eager schedule meets it -/

/-- The pointers and views of two FIFOs agree. -/
structure SamePointers (f g : Fifo) : Prop where
  w : f.w = g.w
  r : f.r = g.r
  viewR : f.viewR = g.viewR
  viewW : f.viewW = g.viewW

/-- A stretch between two accesses goes from `s` to `t` with EN = 1 at both ends and `k` TX sample steps in it, and leaves
TXF with the pointers of `g`. -/
structure Stretch (es : List Event) (s : State) (k : Nat) (g : Fifo) (t : State) : Prop where
  between : es.all betweenAccesses = true
  runs : runEvents es s = .next t
  count : txOccurring es s = k
  en : t.en = true
  rst : t.rst = false
  ptrs : SamePointers t.txf g

theorem Stretch.nil {s : State} {g : Fifo} (he : s.en = true) (hr : s.rst = false) (hp : SamePointers s.txf g) :
    Stretch [] s 0 g s := ⟨rfl, rfl, rfl, he, hr, hp⟩

theorem Stretch.cons {e : Event} {es : List Event} {s t u : State} {k : Nat} {g : Fifo} (hb : betweenAccesses e = true)
    (h : runEvent e s = .next t) (hs : Stretch es t k g u) : Stretch (e :: es) s ((txOccurs e s).toNat + k) g u where
  between := by simp [hb, hs.between]
  runs := by simp [runEvents, h, hs.runs]
  count := by simp [txOccurring, h, hs.count]
  en := hs.en
  rst := hs.rst
  ptrs := hs.ptrs

theorem Stretch.append {es fs : List Event} {s t u : State} {k l : Nat} {f g : Fifo} (h : Stretch es s k f t)
    (h2 : Stretch fs t l g u) : Stretch (es ++ fs) s (k + l) g u := by
  obtain ⟨hb, hr, hc, -, -, -⟩ := h
  have key : runEvents (es ++ fs) s = .next u ∧ txOccurring (es ++ fs) s = k + l := by
    induction es generalizing s k with
    | nil => simp only [runEvents, Host.Outcome.next.injEq] at hr; subst hr; subst hc
             exact ⟨h2.runs, by simp [txOccurring, h2.count]⟩
    | cons e es ih =>
      simp only [List.all_cons, Bool.and_eq_true] at hb
      obtain ⟨v, hv, -⟩ := between_step e s hb.1
      simp only [runEvents, txOccurring, hv, List.cons_append] at hr hc ⊢
      obtain ⟨i1, i2⟩ := ih hb.2 hr rfl
      exact ⟨i1, by omega⟩
  exact ⟨by simp [hb, h2.between], key.1, key.2, h2.en, h2.rst, h2.ptrs⟩

/-- An entry that occurs as no TX sample step, keeps CTRL and rst, and leaves TXF with the pointers of `g`. -/
theorem Stretch.one {e : Event} {s t : State} {g : Fifo} (hb : betweenAccesses e = true) (h : runEvent e s = .next t)
    (ho : txOccurs e s = false) (he : s.en = true) (hr : s.rst = false) (hp : SamePointers t.txf g) :
    Stretch [e] s 0 g t := by
  obtain ⟨u, hu, h1, h2, -⟩ := between_step e s hb
  obtain rfl : t = u := by simpa [h] using hu
  simpa [ho] using Stretch.cons hb h (.nil (h1.trans he) (h2.trans hr) hp)

/-- SYNC_W(TXF) with the true write pointer. -/
theorem syncW_stretch (f : Fifo) (s : State) (he : s.en = true) (hr : s.rst = false) (hp : SamePointers s.txf f) :
    ∃ t, Stretch [.syncW .txf f.w] s 0 { f with viewW := f.w } t := by
  refine ⟨_, .one rfl (runEvent_runs _ s (.inl hr)) rfl he hr ?_⟩
  have : s.txf.syncW f.w = { s.txf with viewW := f.w } := by simp [Fifo.syncW, hp.w]
  exact ⟨by simp [State.syncWStep, State.setFifo, State.fifo, this, hp.w],
    by simp [State.syncWStep, State.setFifo, State.fifo, this, hp.r],
    by simp [State.syncWStep, State.setFifo, State.fifo, this, hp.viewR],
    by simp [State.syncWStep, State.setFifo, State.fifo, this]⟩

/-- SYNC_R(TXF) with the true read pointer. -/
theorem syncR_stretch (f : Fifo) (s : State) (he : s.en = true) (hr : s.rst = false) (hp : SamePointers s.txf f) :
    ∃ t, Stretch [.syncR .txf f.r] s 0 { f with viewR := f.r } t := by
  refine ⟨_, .one rfl (runEvent_runs _ s (.inl hr)) rfl he hr ?_⟩
  have : s.txf.syncR f.r = { s.txf with viewR := f.r } := by simp [Fifo.syncR, hp.r]
  exact ⟨by simp [State.syncRStep, State.setFifo, State.fifo, this, hp.w],
    by simp [State.syncRStep, State.setFifo, State.fifo, this, hp.r],
    by simp [State.syncRStep, State.setFifo, State.fifo, this],
    by simp [State.syncRStep, State.setFifo, State.fifo, this, hp.viewW]⟩

/-- A DAC step that sees an entry, with the event synchronisers after it. -/
theorem dac_stretch (f : Fifo) (s : State) (he : s.en = true) (hr : s.rst = false) (hp : SamePointers s.txf f)
    (hne : f.viewW ≠ f.r) : ∃ t, Stretch [.dac, .syncUnd, .syncOvf] s 0 { f with r := f.r + 1 } t := by
  have hemp : s.txf.emptyR = false := by
    simp only [Fifo.emptyR, Fifo.readerLevel, hp.viewW, hp.r, beq_eq_false_iff_ne, ne_eq]
    bv_omega
  have hd : s.dacStep = { s with dacStream := s.txHead :: s.dacStream, txf := s.txf.advance } := by
    simp [State.dacStep, hemp]
  have keep (u : State) (h : SamePointers u.txf { f with r := f.r + 1 }) :
      SamePointers u.syncUnd.txf { f with r := f.r + 1 } ∧ SamePointers u.syncOvf.txf { f with r := f.r + 1 } := by
    constructor
    · simp only [State.syncUnd]; split <;> exact h
    · simp only [State.syncOvf]; split <;> exact h
  have p1 : SamePointers s.dacStep.txf { f with r := f.r + 1 } := by
    rw [hd]; exact ⟨hp.w, by simp [hp.r], hp.viewR, hp.viewW⟩
  have h1 := Stretch.one rfl (runEvent_runs .dac s (.inl hr)) rfl he hr p1
  have p2 := (keep _ p1).1
  have h2 := Stretch.one rfl (runEvent_runs .syncUnd _ (.inl h1.rst)) rfl h1.en h1.rst p2
  exact ⟨_, (h1.append h2).append
    (.one rfl (runEvent_runs .syncOvf _ (.inl h2.rst)) rfl h2.en h2.rst (keep _ p2).2)⟩

/-- Draining one entry of a TXF that holds one. -/
theorem asmDrain_stretch (f : Fifo) (s : State) (he : s.en = true) (hr : s.rst = false) (hp : SamePointers s.txf f)
    (hne : f.w ≠ f.r) : ∃ t, Stretch (asmDrain f) s 0 f.drained t := by
  obtain ⟨t1, h1⟩ := syncW_stretch f s he hr hp
  obtain ⟨t2, h2⟩ := dac_stretch _ t1 h1.en h1.rst h1.ptrs hne
  obtain ⟨t3, h3⟩ := syncR_stretch _ t2 h2.en h2.rst h2.ptrs
  exact ⟨t3, (h1.append h2).append h3⟩

/-- Making room takes no TX sample step and leaves TXF with room in the writer's sight and its views lagging. -/
theorem asmRoom_stretch (f : Fifo) (s : State) (he : s.en = true) (hr : s.rst = false) (hp : SamePointers s.txf f)
    (hlag : FifoLag f) : ∃ t, Stretch (asmRoom f).1 s 0 (asmRoom f).2 t ∧ FifoLag (asmRoom f).2 ∧
      (asmRoom f).2.writerLevel < 64 := by
  obtain ⟨l1, l2, l3⟩ := hlag
  simp only [Fifo.readerLevel, Fifo.occupancy, Fifo.writerLevel] at l1 l2 l3
  by_cases c1 : (f.w - f.viewR).toNat < 64
  · have : asmRoom f = ([], f) := if_pos c1
    rw [this]
    exact ⟨s, .nil he hr hp, ⟨l1, l2, l3⟩, c1⟩
  · obtain ⟨t1, h1⟩ := syncR_stretch f s he hr hp
    by_cases c2 : (f.w - f.r).toNat < 64
    · have : asmRoom f = ([.syncR .txf f.r], { f with viewR := f.r }) := (if_neg c1).trans (if_pos c2)
      rw [this]
      refine ⟨t1, h1, ⟨?_, ?_, ?_⟩, ?_⟩ <;> simp only [Fifo.readerLevel, Fifo.occupancy, Fifo.writerLevel] <;> bv_omega
    · have : asmRoom f = (.syncR .txf f.r :: asmDrain f, f.drained) := (if_neg c1).trans (if_neg c2)
      rw [this]
      have hne : f.w ≠ f.r := by bv_omega
      obtain ⟨t2, h2⟩ := asmDrain_stretch _ t1 h1.en h1.rst h1.ptrs hne
      refine ⟨t2, h1.append h2, ⟨?_, ?_, ?_⟩, ?_⟩ <;>
        simp only [Fifo.drained, Fifo.readerLevel, Fifo.occupancy, Fifo.writerLevel] <;> bv_omega

/-- A TX sample step that has room occurs, and leaves one more entry in TXF. -/
theorem tx_stretch (f : Fifo) (s : State) (he : s.en = true) (hr : s.rst = false) (hp : SamePointers s.txf f)
    (hroom : f.writerLevel < 64) : ∃ t, Stretch [.tx] s 1 { f with w := f.w + 1 } t := by
  have hen : s.txEnabled = true := by
    simpa [State.txEnabled, he, Fifo.writerLevel, hp.w, hp.viewR] using hroom
  have ho : txOccurs .tx s = true := by simp [txOccurs, hr, hen]
  obtain ⟨u, hu, h1, h2, -⟩ := between_step .tx s rfl
  have hx : s.txStep = u := by simpa [runEvent_runs .tx s (.inl hr), agentStep] using hu
  have hp' : SamePointers u.txf { f with w := f.w + 1 } := by
    subst hx
    rcases txStep_cases s with ⟨h, -⟩ | ⟨-, -, h⟩ | ⟨-, -, h⟩
    · simp [hen] at h
    · rw [h]; exact ⟨by simp [hp.w], by simp [hp.r], by simp [hp.viewR], by simp [hp.viewW]⟩
    · rw [h]; exact ⟨by simp [hp.w], by simp [hp.r], by simp [hp.viewR], by simp [hp.viewW]⟩
  exact ⟨u, by simpa [ho] using Stretch.cons rfl hu (.nil (h1.trans he) (h2.trans hr) hp')⟩

/-- `asmRun` from a TXF with the pointers of `f`: N TX sample steps occur in it. -/
theorem asmRun_stretch (n : Nat) (f : Fifo) (s : State) (he : s.en = true) (hr : s.rst = false)
    (hp : SamePointers s.txf f) (hlag : FifoLag f) : ∃ g t, Stretch (asmRun f n) s n g t := by
  induction n generalizing f s with
  | zero => exact ⟨f, s, .nil he hr hp⟩
  | succ n ih =>
    obtain ⟨t1, h1, hl, hroom⟩ := asmRoom_stretch f s he hr hp hlag
    obtain ⟨t2, h2⟩ := tx_stretch _ t1 h1.en h1.rst h1.ptrs hroom
    obtain ⟨l1, l2, l3⟩ := hl
    simp only [Fifo.readerLevel, Fifo.occupancy, Fifo.writerLevel] at l1 l2 l3 hroom
    obtain ⟨t3, h3⟩ := asmDrain_stretch _ t2 h2.en h2.rst h2.ptrs (by dsimp only; bv_omega)
    obtain ⟨g, t4, h4⟩ := ih _ t3 h3.en h3.rst h3.ptrs (by
      constructor <;> simp only [Fifo.drained, Fifo.readerLevel, Fifo.occupancy, Fifo.writerLevel] <;> bv_omega)
    refine ⟨g, t4, ?_⟩
    have := ((h1.append h2).append h3).append h4
    simpa [asmRun, Nat.add_comm] using this

/-- From every state with EN = 1 and rst released whose TXF views lag (R381), `asmRun` meets `run N`. -/
theorem asmRun_meetsRun (n : Nat) (s : State) (he : s.en = true) (hr : s.rst = false) (hlag : FifoLag s.txf) :
    meetsRun n (asmRun s.txf n) s = true := by
  obtain ⟨g, t, h⟩ := asmRun_stretch n s.txf s he hr ⟨rfl, rfl, rfl, rfl⟩ hlag
  simp [meetsRun, he, hr, h.between, h.count]

end Sys2Proof.Machine
end

