-- ==== Sys2Proof/Tests/Slice0.lean ====
section
/-! SUPPORT. Tests of the model: ill-formed commands refused, words written out from the encodings decoded, single steps
against spec/95_test_vectors.md, and one witness for the hypotheses of each obligation. -/

namespace Sys2Proof.Tests

open Sys2Proof Sys2Proof.Machine Sys2Proof.Safety

/- One theorem after the other: side by side, these kernel evaluations need more threads than the memory limit allows. -/
set_option Elab.async false

/-! ### WellFormed: a CH operand that does not fit its field is refused -/

theorem test_wf_join_16 : (Instr.join 16).wf = false := by decide
theorem test_wf_leave_16 : (Instr.leave 16).wf = false := by decide
theorem test_wf_send_16 : (Instr.send 16).wf = false := by decide
theorem test_wf_rxReset_16 : (Instr.rxReset 16).wf = false := by decide
theorem test_wf_rxqPop_16 : (Instr.rxqPop 16).wf = false := by decide
theorem test_wf_join_15 : (Instr.join 15).wf = true := by decide

/-! ### Decoding: words written bit by bit from R150 and R151 as RSV, CH, OP -/

theorem test_decode_nop : (decode 0b00000000000000000000_0000_00000000).toOption = some .nop := by decide
theorem test_decode_join_c3 : (decode 0b00000000000000000000_0011_00000001).toOption = some (.join 3) := by decide
theorem test_decode_leave_c3 : (decode 0b00000000000000000000_0011_00000010).toOption = some (.leave 3) := by decide
theorem test_decode_send_c2 : (decode 0b00000000000000000000_0010_00000011).toOption = some (.send 2) := by decide
theorem test_decode_broadcast : (decode 0b00000000000000000000_0000_00000100).toOption = some .broadcast := by decide
theorem test_decode_rxReset_c15 : (decode 0b00000000000000000000_1111_00000101).toOption = some (.rxReset 15) := by decide
theorem test_decode_rxqPop_c1 : (decode 0b00000000000000000000_0001_00000110).toOption = some (.rxqPop 1) := by decide
theorem test_decode_rxfDiscard : (decode 0b00000000000000000000_0000_00000111).toOption = some .rxfDiscard := by decide

/-- 95 section 2.1: OP 0x08, RSV bit 12, RSV bit 31, and CH on a command without a channel. -/
theorem test_decode_illegal_words :
    ([0x00000008#32, 0x000000FF#32, 0x00001001#32, 0x80000003#32, 0x00000100#32, 0x00000104#32, 0x00000707#32].all
      fun w => (decode w).toOption == none) = true := by decide +kernel

/-- 30 R155: `send c2` assembles to 0x00000203. -/
theorem test_encode_send_c2 : encode (.send 2) = 0x00000203 := by decide

/-- 95 section 2.1: the word 0x00000F05 as the table numbers it. -/
theorem test_decodeTableWord : decodeTableWord 32 0x00000F05 = some (.rxReset 15) := by decide

/-! ### Small states -/

/-- The state an outcome leaves, with reset standing for a stop. -/
def after (r : Result) : State :=
  match r with
  | .next t => t
  | .fault _ => State.reset
  | .refused _ => State.reset

/-- Configuration G of 95: 1000/200/100/2/480. -/
def chanG : Channel :=
  { Channel.reset with baseFreq := 1000, freqSpacing := 200, symbolRate := 100, order := 2, frameLen := 480 }

/-- Configuration G written to every channel, SAMPLE_RATE 48000. -/
def stateG : State := { State.reset with sampleRate := 48000, chans := Vector.replicate 4 chanG }

/-- Every channel the same. -/
def stateOf (ch : Channel) : State := { State.reset with chans := Vector.replicate 4 ch }

/-- A word written to CMD. -/
def cmd (w : Word) (s : State) : State := after (runEvent (.host (.write 0x014 w)) s)

/-- A register written. -/
def wr (off : Int) (v : Word) (s : State) : State := after (runEvent (.host (.write off v)) s)

theorem stateOf_chan (ch : Channel) (c : Chan) : (stateOf ch).chan c = ch := by
  simp [stateOf, State.chan]

/-! ### Commands (95 sections 2.1 to 2.8) -/

/-- 95 section 2.1. -/
theorem test_illegal_op : (cmd 0x00000008 State.reset).cmdResult = 0x000008FF := by decide +kernel
/-- 95 section 2.1: ILLEGAL comes before the channel check. -/
theorem test_illegal_rsv : (cmd 0x00001001 State.reset).cmdResult = 0x000001FF := by decide +kernel
/-- 95 program P3. -/
theorem test_nop_clears : (cmd 0 (cmd 0x00000008 State.reset)).cmdResult = 0 := by decide +kernel
/-- 95 section 2.1. -/
theorem test_join_c15 : (cmd 0x00000F01 State.reset).cmdResult = 0x000F0101 := by decide +kernel
/-- 95 section 2.2: the tuning words of configuration G. -/
theorem test_join_tuning_words :
    ((cmd 0x00000001 stateG).chan 0).ftw.toList.take 5 = [89478485, 107374182, 125269879, 143165577, 0] := by
  decide +kernel
/-- 95 section 2.2: SYMBOL_PERIOD after JOIN of configuration G. -/
theorem test_join_period : readAt (cmd 0x00000001 stateG) 0x11C = 0x000201E0 := by decide +kernel
/-- 95 section 2.1. -/
theorem test_leave_unjoined : (cmd 0x00000302 stateG).cmdResult = 0x00030202 := by decide +kernel
/-- 95 section 2.2, program P3: ALREADY_JOINED. -/
theorem test_join_twice : (cmd 0x00000001 (cmd 0x00000001 stateG)).cmdResult = 0x00000103 := by decide +kernel
/-- 95 section 2.5: an empty message; STG flips and TX_DONE[0] is set. -/
theorem test_send_empty :
    readAt (cmd 0x00000003 (cmd 0x00000001 stateG)) 0x118 = 0x00000009 ∧
    readAt (cmd 0x00000003 (cmd 0x00000001 stateG)) 0x01C = 0x00000001 := by decide +kernel
/-- 95 section 2.5: TX_LEN 257. -/
theorem test_send_length : (cmd 0x00000003 (wr 0x114 257 (cmd 0x00000001 stateG))).cmdResult = 0x0000030A := by
  decide +kernel
/-- 95 section 2.6: no channel joined. -/
theorem test_broadcast_nobody : (cmd 0x00000004 stateG).cmdResult = 0x00000400 := by decide +kernel
/-- 95 section 2.6: LEN_RANGE on channel 0, channel 1 sends. -/
theorem test_broadcast_skips :
    (fun s => (s.cmdResult, readAt s 0x118, readAt s 0x158))
      (cmd 0x00000004 (wr 0x154 2 (wr 0x114 300 (cmd 0x00000101 (cmd 0x00000001 stateG))))) =
      (0x0000040A, 0x00000001, 0x0000000B) := by decide +kernel
/-- 95 section 2.4. -/
theorem test_rxReset_unjoined : (cmd 0x00000005 stateG).cmdResult = 0x00000502 := by decide +kernel
/-- 95 section 2.7. -/
theorem test_rxqPop_empty : (cmd 0x00000006 (cmd 0x00000001 stateG)).cmdResult = 0x00000609 := by decide +kernel
/-- 95 section 2.8: W = 0x14, W_R = 0x10, R = 0x04. -/
theorem test_rxfDiscard :
    (fun s => (s.rxf.r, s.cmdResult))
      (cmd 0x00000007 { State.reset with rxf := { mem := [], w := 0x14, r := 0x04, viewR := 0, viewW := 0x10 } }) =
      (0x10, 0x00000700) := by decide +kernel

/-! ### Sample steps (95 sections 2.9 to 2.11) -/

/-- A joined channel that plays the one byte "H" with tuning word 107374182 in entry 1, which has already taken one sample
of it. -/
def playingH : Channel :=
  { chanG with
    joined := true, orderAct := 2, pAct := 480, frameAct := 480, actLen := 1, txBusy := true, txSamp := 1,
    ftw := (Vector.replicate 16 0).set 1 107374182, phase := (Vector.replicate 16 0).set 1 107374182,
    txb := [(256, 0x48)] }

/-- 41 R270's example: the second sample of "H" is LUT[25] = 2503. -/
theorem test_nco_second_sample : ((stateOf playingH).txSlot 0).sample = 2503 := by decide +kernel
/-- 41 R270: the active entry advances by its tuning word, after the sample. -/
theorem test_nco_phase_advance : ((stateOf playingH).txSlot 0).chan.phase[1] = 214748364 := by decide +kernel
/-- 41 R261, R262: 0x48 at Order 2 is the symbols 1, 0, 2, 0. -/
theorem test_symbols_of_H : (List.range 4).map (symbolAt (fun _ => 0x48) 1 2) = [1, 0, 2, 0] := by decide +kernel
/-- 95 E9: 0x41 at Order 3 is the symbols 2, 0, 2, the last one padded. -/
theorem test_symbols_padded : (List.range 3).map (symbolAt (fun _ => 0x41) 1 3) = [2, 0, 2] := by decide +kernel
/-- 95 section 2.11: two peaks saturate to 32767, two troughs are exact. -/
theorem test_mixer_limits : sat16 (16384 + 16384) = 32767 ∧ sat16 (-16384 - 16384) = -32768 := by decide
/-- 43 R350's example: with no channel busy the step pushes 0 and counts. -/
theorem test_tx_silence :
    (fun s => (s.sampleCnt, s.txf.w, s.txf.mem)) (after (runEvent .tx (wr 0x008 1 State.reset))) =
      (1, 1, [(0, 0)]) := by decide +kernel
/-- 95 V-F1: a TX FIFO full as its writer sees it holds the step back. -/
theorem test_tx_full :
    (after (runEvent .tx { State.reset with
      en := true, txf := { mem := [], w := 0x45, r := 0x05, viewR := 0x05, viewW := 0x45 } })).sampleCnt = 0 := by
  decide +kernel

/-- A joined channel one sample before the end of a window, lanes 0 and 1 tied at opposite signs, with P = F = 480 and three
windows of the chunk done. -/
def listening : Channel :=
  { chanG with
    joined := true, orderAct := 2, pAct := 480, frameAct := 480,
    rx := { RxState.clear with
      acc := ((Vector.replicate 16 0).set 0 (BitVec.ofInt 48 (-101000))).set 1 101000, winN := 479, chunkCnt := 1919,
      framePos := 479, asm := (Vector.replicate 32 0).set 0 0x48, nbits := 6 } }

/-- 42 R301, R320, R323: a tie goes to the lowest lane, and the full chunk is flushed as one byte. -/
theorem test_window_tie_and_flush :
    (fun u => (u.msg, u.drop, u.chan.rxq, u.chan.rx.chunkCnt)) (correlatorStep 0 listening) =
      (true, false, [[0x48]], 0) := by decide +kernel
/-- 42 R300: one lane adds x · LUT[0] = 0, its reference advances by the tuning word. -/
theorem test_correlator_lane :
    (fun u => (u.rx.acc[1].toInt, u.rx.ref[1])) (correlate 1000 { playingH with rx := { RxState.clear with
      ref := (Vector.replicate 16 0).set 1 107374182 } }) = (1000 * 2503, 214748364) := by decide +kernel

/-! ### FIFOs and the audio domain (95 section 2.12) -/

/-- 95 V-U1: silence on an empty FIFO with EN_A = 1 is an underrun, and SYNC_UND reports it. -/
theorem test_dac_underrun :
    (after (runEvent .syncUnd (after (runEvent .dac { State.reset with enA := true })))).irqStatus = 0x00010000 := by
  decide +kernel
/-- 95 V-U2. -/
theorem test_dac_no_underrun : (after (runEvent .dac State.reset)).undPend = false := by decide +kernel
/-- 95 V-O1: a full RXF drops the newest sample. -/
theorem test_adc_overflow :
    (fun s => (s.ovfPend, s.rxf.w, s.rxf.mem)) (after (runEvent (.adc 123) { State.reset with
      rxenA := true, rxf := { mem := [], w := 0x45, r := 0x05, viewR := 0x05, viewW := 0x05 } })) = (true, 0x45, []) := by
  decide +kernel
/-- 95 V-F4, V-F5. -/
theorem test_push_wraps :
    (Fifo.push { mem := [], w := 0x45, r := 0x45, viewR := 0x45, viewW := 0x45 } 7).mem = [(5, 7)] ∧
    (Fifo.push { mem := [], w := 0x7F, r := 0x7F, viewR := 0x7F, viewW := 0x7F } 7).w = 0 := by decide +kernel
/-- 95 V-S2: the admitted views are 0x7E, 0x7F, 0x00, 0x01. -/
theorem test_syncW_admits :
    ([0x7E#7, 0x7F#7, 0x00#7, 0x01#7, 0x02#7, 0x7D#7].map fun v =>
      (Fifo.syncW { mem := [], w := 0x01, r := 0x7E, viewR := 0x7E, viewW := 0x7E } v).viewW) =
      [0x7E, 0x7F, 0x00, 0x01, 0x7E, 0x7E] := by decide +kernel

/-! ### The bus and interrupts (95 sections 2.13 and 2.14) -/

/-- 95 section 2.14: a[1:0] are ignored. -/
theorem test_read_id_params : readAt State.reset 0x003 = 0x46534B01 ∧ readAt State.reset 0x004 = 0x2066AA44 := by
  decide +kernel
/-- 95 section 2.14: reserved bits of CTRL. -/
theorem test_ctrl_reserved_bits : readAt (wr 0x008 0xFFFFFFFF State.reset) 0x008 = 0x00000003 := by decide +kernel
/-- 95 section 2.14: "Hi" in the staging window, byte 0 in bits 7:0. -/
theorem test_staging_little_endian :
    (wr 0x800 0x00006948 State.reset).txb 0 false 0 = 0x48 ∧ readAt (wr 0x800 0x00006948 State.reset) 0x800 = 0x00006948 := by
  decide +kernel
/-- 95 section 2.14: the head message 52 E0 of channel 1. -/
theorem test_head_window : readAt (stateOf { chanG with rxq := [[0x52, 0xE0]] }) 0x420 = 0x0000E052 := by decide +kernel
/-- 95 V-I1. -/
theorem test_w1c : (wr 0x01C 0x00000100 { State.reset with irqStatus := 0x00000111 }).irqStatus = 0x00000011 := by
  decide +kernel
/-- 95 V-I5, V-I8. -/
theorem test_irq_enable :
    (wr 0x020 0x00000010 { State.reset with irqStatus := 0x00000010 }).irq = true ∧
    readAt (wr 0x020 0xFFFFFFFF State.reset) 0x020 = 0x00070FFF := by decide +kernel
/-- 30 R156, 95 section 2.14: `txload c0, "Hello, FSK!"`. -/
theorem test_txload :
    asmTxload 0 [0x48, 0x65, 0x6C, 0x6C, 0x6F, 0x2C, 0x20, 0x46, 0x53, 0x4B, 0x21] =
      [asmWr 0x800 0x6C6C6548, asmWr 0x804 0x46202C6F, asmWr 0x808 0x00214B53, asmWr 0x114 11] := by decide +kernel

/-- `run 1` from reset with EN = 1 is schedule S_E of 95 section 0. -/
theorem test_run_1 :
    asmRun Fifo.reset 1 = [.tx, .syncW .txf 1, .dac, .syncUnd, .syncOvf, .syncR .txf 1] := by decide +kernel

/-- More TX entries than TXF holds, with no DAC step among them, are no run of that many steps: with 64 entries in TXF the
writer waits (R350). -/
theorem test_run_needs_drain :
    meetsRun 1 [.tx] { State.reset with en := true, txf := { Fifo.reset with w := 64 } } = false ∧
    meetsRun 1 [.tx] State.reset = false := by decide +kernel

/-- `run 3840`, as the programs of 95 section 3 use it. -/
theorem test_run_3840 : meetsRun 3840 (asmRun Fifo.reset 3840) { State.reset with en := true } = true :=
  asmRun_meetsRun 3840 { State.reset with en := true } rfl rfl ⟨by decide, by decide, by decide⟩
/-- The interface: the placed command word is what the next step runs. -/
theorem test_withFetchWord : (after (step (State.reset.withFetchWord 32 0x00000008))).cmdResult = 0x000008FF := by
  decide +kernel

/-! ### Witnesses: a concrete input for the hypotheses of each obligation -/

/-- A joined, busy channel with P = F = 3, Order 2 and the one-byte message of four symbols, at the given positions. -/
def chanAt (txSym : BitVec 12) (txSamp winN : BitVec 16) (chunk : BitVec 20) (frame : BitVec 16) (nbits : BitVec 9) : Channel :=
  { Channel.reset with
    joined := true, orderAct := 2, pAct := 3, frameAct := 3, actLen := 1, txBusy := true, txSym := txSym, txSamp := txSamp,
    rx := { RxState.clear with winN := winN, chunkCnt := chunk, framePos := frame, nbits := nbits } }

/-- The channel invariant at those positions. -/
theorem chanAt_ok (txSym : BitVec 12) (txSamp winN : BitVec 16) (chunk : BitVec 20) (frame : BitVec 16) (nbits : BitVec 9)
    (hsym : txSym.toNat < 4) (hsamp : txSamp.toNat < 3) (hwin : winN.toNat = chunk.toNat % 3) (hframe : frame.toNat < 3)
    (hchunk : chunk.toNat ≤ 11 + frame.toNat) (hbits : nbits.toNat = 2 * (chunk.toNat / 3)) :
    ChannelOk (chanAt txSym txSamp winN chunk frame nbits) where
  queue := ⟨by simp [chanAt, Channel.reset], by simp [chanAt, Channel.reset]⟩
  tx := ⟨by simp [chanAt], fun _ => rfl, fun _ => by simpa [chanAt, nsymTotal, ceilDiv] using hsym, fun _ => hsamp⟩
  engine := fun _ =>
    { orderLo := by simp [chanAt], orderHi := by simp [chanAt], period := by simp [chanAt], frameLo := by simp [chanAt]
      frameHi := by simp [chanAt], chunk := by simp [chanAt, chunkBytesMax, ceilDiv]
      ftwZero := fun i _ => by simp [chanAt, Channel.reset] }
  rx := fun _ =>
    { window := by simp only [chanAt, BitVec.reduceToNat]; omega
      position := hwin
      frame := hframe
      chunk := hchunk
      bits := hbits
      bitsMax := by simp only [chanAt]; omega
      ref := fun i _ => by simp [chanAt, Channel.reset, RxState.clear]
      acc := fun i => by simp [chanAt, RxState.clear]
      unused := fun i _ => by simp [chanAt, RxState.clear]
      zeros := fun j _ => by
        simp only [asmBit, chanAt, RxState.clear]
        cases h : (Vector.replicate 32 (0 : Byte))[j / 8]? with
        | none => simp
        | some b => simp [Vector.getElem?_replicate] at h; simp [← h.2] }

/-! ### Witnesses of the encoding and the commands -/

theorem witness_DecodeEncodeAgree : (Instr.join 15).wf = true ∧ decode 0x00000F01 = .ok (.join 15) := ⟨rfl, rfl⟩

theorem witness_IllegalWordOnlyReports :
    (∃ e, decode 0x00000008 = .error e) ∧ (∃ e, decode 0x00001001 = .error e) ∧ (∃ e, decode 0x00000104 = .error e) ∧
    State.reset.rst = false := ⟨⟨_, rfl⟩, ⟨_, rfl⟩, ⟨_, rfl⟩, rfl⟩

theorem witness_MissingChannelReportsBadChannel :
    Instr.join 4 ∈ [Instr.join 4, .leave 4, .send 4, .rxReset 4, .rxqPop 4] ∧
    Instr.rxqPop 15 ∈ [Instr.join 15, .leave 15, .send 15, .rxReset 15, .rxqPop 15] := by decide

theorem witness_StepRunsDecodedCommand :
    (State.reset.placeCommand 0x00000301).rst = false ∧ decode 0x00000301 = .ok (.join 3) ∧ (Instr.join 3).wf = true ∧
    (State.reset.placeCommand 0x00000301).pending = .host (.write 0x014 0x00000301) :: [] := ⟨rfl, rfl, rfl, rfl⟩

/-- The failing code of an illegal word, and a word that is not BROADCAST's. -/
theorem witness_CommandCompletion :
    commandWrite 0x00000008 State.reset = .next (illegalCommand 0x00000008 State.reset) ∧ ResultCode.illegal ≠ .ok ∧
    (0x00000008 : Word) ≠ 0x04 := ⟨rfl, by decide, by decide⟩

/-- The hypotheses of `PlainCommand.illegal` for NOP, BROADCAST and RXF_DISCARD. -/
theorem witness_PlainCommand :
    ((0x00000100 : Word).toNat % 256 = 0x00 ∧ (0x00000100 : Word).toNat ≠ 0x00) ∧
    ((0x80000004 : Word).toNat % 256 = 0x04 ∧ (0x80000004 : Word).toNat ≠ 0x04) ∧
    ((0x00000707 : Word).toNat % 256 = 0x07 ∧ (0x00000707 : Word).toNat ≠ 0x07) := by decide

/-- The hypotheses of `ChannelCommand.illegal` for the five channel commands. -/
theorem witness_ChannelCommand :
    ∀ op ∈ [0x01, 0x02, 0x03, 0x05, 0x06],
      (BitVec.ofNat 32 (0x1000 + op)).toNat % 256 = op ∧ (BitVec.ofNat 32 (0x1000 + op)).toNat / 4096 ≠ 0 := by decide

theorem stateG_joinable : Joinable stateG 0 where
  free := by decide +kernel
  orderLo := by decide +kernel
  orderHi := by decide +kernel
  sampleRate := by decide +kernel
  symbolRate := by decide +kernel
  periodLo := by decide +kernel
  periodHi := by decide +kernel
  frameLo := by decide +kernel
  frameHi := by decide +kernel
  chunk := by decide +kernel

/-- A channel JOIN accepts, one it does not, a lane below 2^O and a lane at 2^O. -/
theorem witness_JoinBuildsEngine :
    Joinable stateG 0 ∧ ¬Joinable State.reset 0 ∧ (3 : Lane).val < 2 ^ (stateG.chan 0).order.toNat ∧
    2 ^ (stateG.chan 0).order.toNat ≤ (4 : Lane).val :=
  ⟨stateG_joinable, fun h => absurd h.orderLo (by decide +kernel), by decide +kernel, by decide +kernel⟩

/-- SAMPLE_RATE `sr` with every channel `ch`. -/
def stateAt (sr : Word) (ch : Channel) : State := { stateOf ch with sampleRate := sr }

/-- The symbol period as JoinChecksInOrder writes it. -/
def periodOf (s : State) : Nat :=
  (2 * s.sampleRate.toNat + (s.chan 0).symbolRate.toNat) / (2 * (s.chan 0).symbolRate.toNat)

/-- One state for each clause of JoinChecksInOrder, with both ends of the ranges (95 section 2.2). -/
theorem witness_JoinChecksInOrder :
    ((stateAt 48000 { chanG with joined := true }).chan 0).joined = true ∧
    ¬(1 ≤ ((stateAt 48000 { chanG with order := 0 }).chan 0).order.toNat) ∧
    ¬(((stateAt 48000 { chanG with order := 5 }).chan 0).order.toNat ≤ 4) ∧
    (stateAt 0 chanG).sampleRate.toNat = 0 ∧
    ((stateAt 48000 { chanG with symbolRate := 0 }).chan 0).symbolRate.toNat = 0 ∧
    periodOf (stateAt 48000 { chanG with symbolRate := 96001 }) = 0 ∧
    periodOf (stateAt 131071 { chanG with symbolRate := 1 }) = 131071 ∧
    ((stateAt 48000 { chanG with frameLen := 0 }).chan 0).frameLen.toNat = 0 ∧
    ((stateAt 48000 { chanG with frameLen := 4097 }).chan 0).frameLen.toNat = 4097 ∧
    periodOf (stateAt 48000 { chanG with symbolRate := 96000, order := 4, frameLen := 62 }) = 1 ∧
    32 < ((4 + (62 - 1) / 1) * 4 + 7) / 8 ∧
    periodOf (stateAt 131070 { chanG with symbolRate := 2 }) = 65535 := by decide +kernel

theorem witness_LeaveClosesSession :
    ((stateOf { chanG with joined := true }).chan 3).joined = true ∧ (stateG.chan 0).joined = false := by decide +kernel

/-- TX_LEN 256, TX_LEN 257, and an unjoined channel. -/
theorem witness_SendReplacesMessage :
    (((stateOf { chanG with joined := true, txLen := 256 }).chan 0).joined = true ∧
      ((stateOf { chanG with joined := true, txLen := 256 }).chan 0).txLen.toNat ≤ 256) ∧
    (((stateOf { chanG with joined := true, txLen := 257 }).chan 0).joined = true ∧
      256 < ((stateOf { chanG with joined := true, txLen := 257 }).chan 0).txLen.toNat) ∧
    (stateG.chan 0).joined = false := by decide +kernel

/-- A channel BROADCAST starts, one it skips for its length, one that is not joined. -/
theorem witness_BroadcastSendsOnEveryJoinedChannel :
    (((stateOf { chanG with joined := true, txLen := 256 }).chan 0).joined = true ∧
      ((stateOf { chanG with joined := true, txLen := 256 }).chan 0).txLen.toNat ≤ 256) ∧
    256 < ((stateOf { chanG with joined := true, txLen := 257 }).chan 0).txLen.toNat ∧
    (stateG.chan 0).joined = false := by decide +kernel

theorem witness_RxResetClearsReceiveState :
    ((stateOf { chanG with joined := true }).chan 0).joined = true ∧ (stateG.chan 0).joined = false := by decide +kernel

theorem witness_RxqPopRemovesHead :
    ((stateOf { chanG with joined := true, rxq := [[1], [2]] }).chan 0).rxq = [1] :: [[2]] ∧
    ((stateOf { chanG with joined := true }).chan 0).rxq = [] ∧
    ((stateOf { chanG with joined := true }).chan 0).joined = true ∧ (stateG.chan 0).joined = false := by decide +kernel

theorem witness_CommandFrame :
    (∃ t, exec (.join 0) stateG = .next t) ∧ Instr.join 0 ≠ .rxfDiscard ∧ Instr.join 0 ≠ .broadcast ∧
    ¬namesChannel (.join 0) 1 ∧ Instr.leave 0 ≠ .join 0 ∧ Instr.join 0 ≠ .send 0 :=
  ⟨⟨_, rfl⟩, by decide, by decide, by simp [namesChannel], by decide, by decide⟩

/-! ### Witnesses of waveform synthesis -/

theorem dac_runs_no_command (i : Instr) : ¬runsCommand .dac i := by simp [runsCommand, cmdWritten]

theorem witness_SymbolsAreMsbFirst :
    7 < 8 * 1 ∧ 8 * 1 ≤ 8 ∧ runEvent .dac State.reset = .next State.reset.dacStep ∧ Event.dac ≠ .rstAssert ∧
    ¬runsCommand .dac (.send 0) ∧ ¬runsCommand .dac .broadcast :=
  ⟨by decide, by decide, rfl, by decide, dac_runs_no_command _, dac_runs_no_command _⟩

/-- The invariant for every channel of a state whose channels are all alike. -/
theorem stateOf_ok {ch : Channel} (h : ChannelOk ch) (c : Chan) : ChannelOk ((stateOf ch).chan c) := by
  rw [stateOf_chan]; exact h

theorem witness_NcoStepAdvancesActiveEntryOnly :
    ChannelOk ((stateOf (chanAt 3 2 0 0 0 0)).chan 0) ∧ ((stateOf (chanAt 3 2 0 0 0 0)).chan 0).joined = true ∧
    ((stateOf (chanAt 3 2 0 0 0 0)).chan 0).txBusy = true :=
  ⟨stateOf_ok (chanAt_ok _ _ _ _ _ _ (by decide) (by decide) (by decide) (by decide) (by decide) (by decide)) _,
    by decide +kernel, by decide +kernel⟩

/-- The cursor inside a symbol, at the end of a symbol, and at the end of the message in an enabled step. -/
theorem witness_CursorAdvances :
    (ChannelOk ((stateOf (chanAt 0 0 0 0 0 0)).chan 0) ∧ 0 + 1 < (chanAt 0 0 0 0 0 0).pAct.toNat) ∧
    (ChannelOk ((stateOf (chanAt 2 2 0 0 0 0)).chan 0) ∧ 2 + 1 = (chanAt 2 2 0 0 0 0).pAct.toNat ∧ 2 + 1 < nsymTotal 1 2) ∧
    (ChannelOk ((stateOf (chanAt 3 2 0 0 0 0)).chan 0) ∧ 2 + 1 = (chanAt 3 2 0 0 0 0).pAct.toNat ∧ 3 + 1 = nsymTotal 1 2 ∧
      ({ stateOf (chanAt 3 2 0 0 0 0) with en := true }.txSlot 0).done = true ∧
      { stateOf (chanAt 3 2 0 0 0 0) with en := true }.txEnabled = true) :=
  ⟨⟨stateOf_ok (chanAt_ok _ _ _ _ _ _ (by decide) (by decide) (by decide) (by decide) (by decide) (by decide)) _, by decide⟩,
   ⟨stateOf_ok (chanAt_ok _ _ _ _ _ _ (by decide) (by decide) (by decide) (by decide) (by decide) (by decide)) _, by decide,
    by decide⟩,
   ⟨stateOf_ok (chanAt_ok _ _ _ _ _ _ (by decide) (by decide) (by decide) (by decide) (by decide) (by decide)) _, by decide,
    by decide, by decide +kernel, by decide +kernel⟩⟩

/-- A message about to start, with its last busy step 11 and its first silent step 12. -/
theorem witness_MessageLastsSymbolsTimesPeriod :
    ChannelOk (chanAt 0 0 0 0 0 0) ∧ (chanAt 0 0 0 0 0 0).joined = true ∧ (chanAt 0 0 0 0 0 0).txBusy = true ∧
    (chanAt 0 0 0 0 0 0).txSym = 0 ∧ (chanAt 0 0 0 0 0 0).txSamp = 0 ∧ 11 < nsymTotal 1 2 * 3 ∧ nsymTotal 1 2 * 3 ≤ 12 :=
  ⟨chanAt_ok _ _ _ _ _ _ (by decide) (by decide) (by decide) (by decide) (by decide) (by decide), rfl, rfl, rfl, rfl,
    by decide, by decide⟩

theorem witness_SilentChannelContributesZero :
    ((State.reset.chan 0).joined = false ∧ runEvent .tx State.reset = .next State.reset) ∧
    ((stateOf { chanG with joined := true }).chan 0).txBusy = false := ⟨⟨rfl, rfl⟩, by decide +kernel⟩

theorem witness_MixerSaturatesTheSum :
    (∀ d : Chan, d ≠ 0 → (State.reset.chan d).playing = false) ∧ (0 : Chan) ≠ 1 ∧
    (∀ e : Chan, e ≠ 0 → e ≠ 1 → (State.reset.chan e).playing = false) := by decide +kernel

/-- Enabled with 63 entries seen, in loopback and not; not enabled with 64 seen, and with EN = 0. -/
theorem witness_TxSampleStep :
    ({ State.reset with en := true, txf := { Fifo.reset with w := 63 } }.txf.writerLevel < 64) ∧
    64 ≤ { State.reset with en := true, txf := { Fifo.reset with w := 64 } }.txf.writerLevel ∧
    { State.reset with en := true, loopback := true }.loopback = true ∧ State.reset.loopback = false ∧
    State.reset.en = false ∧ State.reset.rst = false := by decide +kernel

/-- The three writers of an entry: a TX step, a JOIN and a reset, each changing entry 1 of channel 0. -/
theorem witness_PhaseBankWriters :
    ((after (runEvent .tx { stateOf playingH with en := true })).chan 0).phase[1] ≠ playingH.phase[1] ∧
    ((cmd 0x00000001 (stateAt 48000 { chanG with phase := Vector.replicate 16 7 })).chan 0).phase[1] ≠ 7 ∧
    ((after (runEvent .rstAssert (stateOf playingH))).chan 0).phase[1] ≠ playingH.phase[1] := by decide +kernel

/-! ### Witnesses of the receive path -/

/-- A window that fills, and one that does not; a lane in use, and one that is not. -/
theorem witness_CorrelatorAccumulatesExactly :
    (ChannelOk (chanAt 0 0 2 2 2 0) ∧ (chanAt 0 0 2 2 2 0).joined = true ∧ 2 + 1 = (chanAt 0 0 2 2 2 0).pAct.toNat) ∧
    (ChannelOk (chanAt 0 0 0 0 0 0) ∧ 0 + 1 < (chanAt 0 0 0 0 0 0).pAct.toNat) ∧
    (3 : Lane).val < 2 ^ (chanAt 0 0 0 0 0 0).orderAct.toNat ∧ 2 ^ (chanAt 0 0 0 0 0 0).orderAct.toNat ≤ (4 : Lane).val :=
  ⟨⟨chanAt_ok _ _ _ _ _ _ (by decide) (by decide) (by decide) (by decide) (by decide) (by decide), rfl, by decide⟩,
   ⟨chanAt_ok _ _ _ _ _ _ (by decide) (by decide) (by decide) (by decide) (by decide) (by decide), by decide⟩,
   by decide, by decide⟩

theorem witness_LowestLaneWinsTies :
    1 ≤ { chanG with orderAct := 1 }.orderAct.toNat ∧ { chanG with orderAct := 4 }.orderAct.toNat ≤ 4 := by decide

/-- The assembled bits of a cleared buffer. -/
theorem asmBit_clear (n : BitVec 9) (j : Nat) : asmBit { RxState.clear with nbits := n } j = false := by
  simp only [asmBit, RxState.clear]
  cases h : (Vector.replicate 32 (0 : Byte))[j / 8]? with
  | none => simp
  | some b => simp [Vector.getElem?_replicate] at h; simp [← h.2]

/-- The last symbol that fits: NBITS 254 at Order 2. -/
theorem witness_AssembleAppendsMsbFirst :
    (chanAt 0 0 0 0 0 254).rx.nbits.toNat + (chanAt 0 0 0 0 0 254).orderAct.toNat ≤ 256 ∧
    ∀ j, (chanAt 0 0 0 0 0 254).rx.nbits.toNat ≤ j → asmBit (chanAt 0 0 0 0 0 254).rx j = false :=
  ⟨by decide, fun j _ => by simpa [chanAt, asmBit, RxState.clear] using asmBit_clear 254 j⟩

/-- Inside a frame, at a frame end one sample short of a chunk, and at a frame end with a full chunk; correlator steps that
end a frame short of a chunk and with exactly 4·P samples, and, with one-sample frames, the flush at 4·P + FRAME_POS. -/
theorem witness_ChunkTestAtFrameEnds :
    1 + 1 < (chanAt 0 0 0 0 1 0).frameAct.toNat ∧
    (2 + 1 = (chanAt 0 0 2 11 2 6).frameAct.toNat ∧ 11 < 4 * (chanAt 0 0 2 11 2 6).pAct.toNat) ∧
    (2 + 1 = (chanAt 0 0 0 12 2 8).frameAct.toNat ∧ 4 * (chanAt 0 0 0 12 2 8).pAct.toNat ≤ 12) ∧
    (let ch := { chanAt 0 0 0 12 0 8 with frameAct := 1 }
     ch.rx.framePos.toNat + 1 = ch.frameAct.toNat ∧ ch.rx.chunkCnt.toNat = 4 * ch.pAct.toNat + ch.rx.framePos.toNat) ∧
    (ChannelOk (chanAt 0 0 1 10 2 6) ∧ (chanAt 0 0 1 10 2 6).joined = true ∧ 2 + 1 = (chanAt 0 0 1 10 2 6).frameAct.toNat ∧
      ¬4 * (chanAt 0 0 1 10 2 6).pAct.toNat ≤ 10 + 1) ∧
    (ChannelOk (chanAt 0 0 2 11 2 6) ∧ (chanAt 0 0 2 11 2 6).joined = true ∧ 4 * (chanAt 0 0 2 11 2 6).pAct.toNat ≤ 11 + 1) ∧
    ChannelOk (chanAt 0 0 2 11 1 6) ∧ 1 + 1 ≠ (chanAt 0 0 2 11 1 6).frameAct.toNat :=
  ⟨by decide, by decide, by decide, by decide,
   ⟨chanAt_ok _ _ _ _ _ _ (by decide) (by decide) (by decide) (by decide) (by decide) (by decide), rfl, by decide, by decide⟩,
   ⟨chanAt_ok _ _ _ _ _ _ (by decide) (by decide) (by decide) (by decide) (by decide) (by decide), rfl, by decide⟩,
   chanAt_ok _ _ _ _ _ _ (by decide) (by decide) (by decide) (by decide) (by decide) (by decide), by decide⟩

theorem witness_FlushQueuesOrDropsNewest :
    { chanG with rxq := List.replicate 9 [0] }.rxq.length < 10 ∧ 10 ≤ { chanG with rxq := List.replicate 10 [0] }.rxq.length := by
  decide

/-- Enabled with one entry in sight; not enabled with EN = 0, in loopback, or with nothing in sight. -/
theorem witness_RxSampleStep :
    (let s := { stateOf (chanAt 0 0 0 0 0 0) with en := true, rxf := { Fifo.reset with w := 1, viewW := 1 } }
     s.rst = false ∧ s.en = true ∧ s.loopback = false ∧ 0 < (s.rxf.viewW - s.rxf.r).toNat ∧ (s.chan 0).joined = true) ∧
    (State.reset.chan 0).joined = false ∧ State.reset.en = false ∧ { State.reset with loopback := true }.loopback = true ∧
    State.reset.rxf.viewW = State.reset.rxf.r := by decide +kernel

theorem witness_ReceiveIndependentOfTransmit : SameReceiver (chanAt 0 0 0 0 0 0) (chanAt 3 2 0 0 0 0) :=
  ⟨rfl, rfl, rfl, rfl, rfl, rfl, rfl, rfl⟩

/-- A cleared channel that queues one message of silence within one chunk. -/
theorem witness_SilenceDecodesToZeroBytes :
    ChannelOk (chanAt 0 0 0 0 0 0) ∧ (chanAt 0 0 0 0 0 0).joined = true ∧ (chanAt 0 0 0 0 0 0).rx = RxState.clear ∧
    (chanAt 0 0 0 0 0 0).rxq = [] ∧ (receiveAll (chanAt 0 0 0 0 0 0) (List.replicate 12 0)).rxq = [[0]] :=
  ⟨chanAt_ok _ _ _ _ _ _ (by decide) (by decide) (by decide) (by decide) (by decide) (by decide), rfl, rfl, rfl,
    by decide +kernel⟩

/-! ### Witnesses of the invariants -/

/-- Reset with one DAC step to come. -/
def resetDac : State := { State.reset with pending := [.dac] }

theorem resetDac_steps : step resetDac = .next { resetDac with pending := [], dacStream := [0] } := rfl

theorem resetChannel_ok : ChannelOk Channel.reset where
  queue := ⟨by simp [Channel.reset], by simp [Channel.reset]⟩
  tx := ⟨by decide, by decide, by decide, by decide⟩
  engine := fun h => absurd h (by decide)
  rx := fun h => absurd h (by decide)

theorem witness_StepKeepsChannelInvariant :
    ChannelsOk resetDac ∧ (∃ t, step resetDac = .next t) ∧
    ChannelsOk (stateOf (chanAt 0 0 2 11 2 6)) ∧ ((stateOf (chanAt 0 0 2 11 2 6)).chan 0).joined = true :=
  ⟨fun c => by
      rw [show resetDac.chan c = Channel.reset from by simp [resetDac, State.reset, State.chan]]
      exact resetChannel_ok,
    ⟨_, resetDac_steps⟩,
    fun c => stateOf_ok (chanAt_ok _ _ _ _ _ _ (by decide) (by decide) (by decide) (by decide) (by decide) (by decide)) c,
    by decide +kernel⟩

theorem resetFifo_lag : FifoLag Fifo.reset := ⟨by decide, by decide, by decide⟩

theorem witness_StepKeepsFifoInvariant : FifosOk resetDac ∧ ∃ t, step resetDac = .next t :=
  ⟨fun id => by
      cases id
      · exact ⟨resetFifo_lag, fun k hk => absurd hk (by simp [resetDac, State.reset, State.fifo, Fifo.reset, Fifo.occupancy])⟩
      · exact ⟨resetFifo_lag, fun k hk => absurd hk (by simp [resetDac, State.reset, State.fifo, Fifo.reset, Fifo.occupancy])⟩,
    ⟨_, resetDac_steps⟩⟩

theorem witness_StepKeepsMemoryCanonical : MemoryOk resetDac ∧ ∃ t, step resetDac = .next t :=
  ⟨⟨fun c => reset_txb_wf c, fun id => by cases id <;> rfl⟩, ⟨_, resetDac_steps⟩⟩

theorem witness_StepKeepsFlagAndResultFields : (FlagsOk resetDac ∧ ResultOk resetDac) ∧ ∃ t, step resetDac = .next t :=
  ⟨⟨⟨by decide, by decide⟩, ⟨by decide, by decide⟩⟩, ⟨_, resetDac_steps⟩⟩

/-! ### Witnesses of the FIFOs and the domain crossing -/

/-- One entry, in sight of both sides. -/
theorem witness_FifoIsAQueue :
    FifoLag Fifo.reset ∧ Fifo.reset.writerLevel < 64 ∧ FifoLag { Fifo.reset with w := 64, viewW := 1 } ∧
    0 < { Fifo.reset with w := 64, viewW := 1 }.readerLevel :=
  ⟨resetFifo_lag, by decide, ⟨by decide, by decide, by decide⟩, by decide⟩

/-- Each owner moving its pointer. -/
theorem witness_FifoOwnership :
    (after (runEvent .tx { State.reset with en := true })).txf.w ≠ State.reset.txf.w ∧
    (after (runEvent .dac { State.reset with txf := { Fifo.reset with w := 1, viewW := 1 } })).txf.r ≠ 0 ∧
    (after (runEvent (.adc 5) { State.reset with rxenA := true })).rxf.w ≠ State.reset.rxf.w ∧
    (after (runEvent .rx { State.reset with en := true, rxf := { Fifo.reset with w := 1, viewW := 1 } })).rxf.r ≠ 0 ∧
    (cmd 0x00000007 { State.reset with rxf := { Fifo.reset with w := 1, viewW := 1 } }).rxf.r ≠ 0 := by decide +kernel

theorem witness_AudioStrobeSteps :
    State.reset.rst = false ∧ State.reset.txf.viewW = State.reset.txf.r ∧
    { Fifo.reset with w := 1, viewW := 1 }.viewW ≠ { Fifo.reset with w := 1, viewW := 1 }.r ∧ State.reset.rxenA = false ∧
    { State.reset with rxenA := true }.rxenA = true ∧ (63 - Fifo.reset.viewR).toNat ≠ 64 ∧
    (64 - Fifo.reset.viewR).toNat = 64 := by decide +kernel

/-- The last admitted view. -/
theorem witness_PointerSyncDeliversAdmittedView :
    State.reset.rst = false ∧
    ((0x01 : Ptr) - { Fifo.reset with w := 0x01, viewW := 0x7E, r := 0x7E }.viewW).toNat ≤
      ({ Fifo.reset with w := 0x01, viewW := 0x7E, r := 0x7E }.w - { Fifo.reset with w := 0x01, viewW := 0x7E, r := 0x7E }.viewW).toNat := by
  decide +kernel

theorem witness_EnableAndEventSync :
    State.reset.rst = false ∧ State.reset.undPend = false ∧ { State.reset with undPend := true }.undPend = true ∧
    State.reset.ovfPend = false ∧ { State.reset with ovfPend := true }.ovfPend = true := by decide +kernel

/-- A fair schedule of an idle block: both event synchronisers, the DAC and the ADC in turn. -/
def idleSchedule (n : Nat) : Event :=
  if n % 4 = 0 then .syncUnd else if n % 4 = 1 then .syncOvf else if n % 4 = 2 then .dac else .adc 0

/-- Its run, from a state with an underrun and an overflow waiting. -/
def idleRun : Nat → State
  | 0 => { State.reset with undPend := true, ovfPend := true }
  | n + 1 => after (runEvent (idleSchedule n) (idleRun n))

theorem idleSchedule_cases (n : Nat) :
    idleSchedule n = .syncUnd ∨ idleSchedule n = .syncOvf ∨ idleSchedule n = .dac ∨ idleSchedule n = .adc 0 := by
  unfold idleSchedule; split <;> [simp; (split <;> [simp; (split <;> simp)])]

/-- Nothing of the block moves in that run but the pending events. -/
structure Idle (s : State) : Prop where
  en : s.en = false
  loopback : s.loopback = false
  enA : s.enA = false
  rxenA : s.rxenA = false
  txf : s.txf = Fifo.reset
  rxf : s.rxf = Fifo.reset
  rst : s.rst = false

theorem idle_step {e : Event} {s : State} (he : e = .syncUnd ∨ e = .syncOvf ∨ e = .dac ∨ e = .adc 0) (h : Idle s) :
    ∃ t, runEvent e s = .next t ∧ Idle t := by
  obtain ⟨h1, h2, h3, h4, h5, h6, h7⟩ := h
  rcases he with rfl | rfl | rfl | rfl
  · refine ⟨s.syncUnd, by simp [runEvent, agentStep, h7], ?_⟩
    unfold State.syncUnd; split <;> exact ⟨h1, h2, h3, h4, h5, h6, h7⟩
  · refine ⟨s.syncOvf, by simp [runEvent, agentStep, h7], ?_⟩
    unfold State.syncOvf; split <;> exact ⟨h1, h2, h3, h4, h5, h6, h7⟩
  · refine ⟨s.dacStep, by simp [runEvent, agentStep, h7], ?_⟩
    have he : s.txf.emptyR = true := by rw [h5]; decide
    simp only [State.dacStep, he, if_true]
    exact ⟨h1, h2, h3, h4, h5, h6, h7⟩
  · refine ⟨s.adcStep 0, by simp [runEvent, agentStep, h7], ?_⟩
    simp only [State.adcStep, h4, Bool.not_false, if_true]
    exact ⟨h1, h2, h3, h4, h5, h6, h7⟩

theorem idleRun_idle : ∀ n, Idle (idleRun n)
  | 0 => ⟨rfl, rfl, rfl, rfl, rfl, rfl, rfl⟩
  | n + 1 => by
    obtain ⟨t, ht, hi⟩ := idle_step (idleSchedule_cases n) (idleRun_idle n)
    simpa [idleRun, ht, after] using hi

theorem idleRun_isRun : IsRun idleSchedule idleRun := fun n => by
  obtain ⟨t, ht, -⟩ := idle_step (idleSchedule_cases n) (idleRun_idle n)
  simp [idleRun, ht, after]

theorem idleSchedule_fair : Fair idleSchedule idleRun where
  pointerW := fun f n h => absurd (by cases f <;> simp [State.fifo, (idleRun_idle n).txf, (idleRun_idle n).rxf, Fifo.reset]) h
  pointerR := fun f n h => absurd (by cases f <;> simp [State.fifo, (idleRun_idle n).txf, (idleRun_idle n).rxf, Fifo.reset]) h
  enDac := fun n h => absurd (by simp [(idleRun_idle n).enA, (idleRun_idle n).en]) h
  enAdc := fun n h => absurd (by simp [(idleRun_idle n).rxenA, (idleRun_idle n).en]) h
  underrun := fun n _ => ⟨4 * n, by omega, .inl (by simp [idleSchedule])⟩
  overflow := fun n _ => ⟨4 * n + 1, by omega, .inl (by simp [idleSchedule, Nat.add_mod])⟩
  dac := fun n _ => ⟨4 * n + 2, by omega, .inl (by simp [idleSchedule, Nat.add_mod])⟩
  adc := fun n _ => ⟨4 * n + 3, by omega, .inl ⟨0, by simp [idleSchedule, Nat.add_mod]⟩⟩
  tx := fun n h => absurd h (by simp [State.txEnabled, (idleRun_idle n).en])
  rx := fun n h => absurd h (by simp [State.rxEnabled, (idleRun_idle n).en])

theorem witness_FairRunsReportPendingEvents :
    IsRun idleSchedule idleRun ∧ Fair idleSchedule idleRun ∧ (idleRun 0).rst = false ∧ (idleRun 0).undPend = true ∧
    (idleRun 0).ovfPend = true := ⟨idleRun_isRun, idleSchedule_fair, rfl, rfl, rfl⟩

/-! ### Witnesses of the register space, interrupts and whole-machine rules -/

/-- The last byte of the window and the word it lies in. -/
theorem witness_ReadsHaveNoSideEffect :
    State.reset.rst = false ∧ (0 : Int) ≤ 4095 ∧ (4095 : Int) < 4096 ∧ (4092 : Int) / 4 = 4095 / 4 := by decide

/-- Two read-write registers, a read-only one, both ends of each reserved range, and the two ends of the last word. -/
theorem witness_RegisterAccessTypes :
    ((0x020 : Int), (0x70FFF : Word)) ∈ rwRegisters ∧ (chb 3 + 0x24, (0xF : Word)) ∈ rwRegisters ∧
    chb 3 + 0x24 ≠ (0x020 : Int) ∧ (0x000 : Int) ∈ roRegisters ∧ chb 3 + 0x3C ∈ roRegisters ∧
    reservedOffset 0x02C ∧ reservedOffset 0x0FF ∧ reservedOffset 0x200 ∧ reservedOffset 0x3FF ∧ reservedOffset 0x480 ∧
    reservedOffset 0x7FF ∧ reservedOffset 0xC00 ∧ reservedOffset 0xFFF ∧
    (0 : Int) ≤ 4092 ∧ (4092 : Int) < 4096 ∧ (4095 : Int) / 4 = 4092 / 4 := by
  refine ⟨by decide, by decide, by decide, by decide, by decide, ?_⟩
  simp [reservedOffset]

theorem witness_ChannelRegistersRead :
    QueueOk (State.reset.chan 3) ∧ State.reset.rst = false ∧
    (0x3C : Int) ∈ [(0x18 : Int), 0x1C, 0x20, 0x28, 0x2C, 0x30, 0x34, 0x38, 0x3C] :=
  ⟨resetChannel_ok.queue, rfl, by decide⟩

/-- The same word of another channel, of the other bank, and the next word of the same bank. -/
theorem witness_StagingWindowWrites :
    State.reset.rst = false ∧ (1 : Chan) ≠ 0 ∧ true ≠ (State.reset.chan 0).stg ∧ (4 : Byte).toNat / 4 ≠ (0 : Fin 64).val := by
  decide +kernel

theorem witness_HeadWindowShowsHeadMessage :
    (State.reset.chan 0).rxq = [] ∧ ((stateOf { chanG with rxq := [[1], [2]] }).chan 0).rxq = [1] :: [[2]] ∧
    runEvent .dac (stateOf { chanG with rxq := [[1]] }) = .next (stateOf { chanG with rxq := [[1]] }).dacStep ∧
    ¬runsCommand .dac (.rxqPop 0) ∧ ((stateOf { chanG with rxq := [[1]] }).chan 0).rxq ≠ [] :=
  ⟨rfl, by decide +kernel, rfl, dac_runs_no_command _, by decide +kernel⟩

/-- A bit that a write clears, and a bit of each kind that a step sets. -/
theorem witness_InterruptBitsStickyUntilCleared :
    (wr 0x01C 1 { State.reset with irqStatus := 1 }).irqStatus.getLsbD 0 = false ∧
    (after (runEvent .tx { stateOf (chanAt 3 2 0 0 0 0) with en := true })).irqStatus.getLsbD 0 = true ∧
    (after (runEvent .rx { stateOf (chanAt 0 0 2 11 2 6) with
      en := true, rxf := { Fifo.reset with mem := [(0, 0)], w := 1, viewW := 1 } })).irqStatus.getLsbD 4 = true ∧
    (after (runEvent .syncUnd { State.reset with undPend := true })).irqStatus.getLsbD 16 = true ∧
    (after (runEvent .syncOvf { State.reset with ovfPend := true })).irqStatus.getLsbD 17 = true ∧
    (cmd 0x00000008 State.reset).irqStatus.getLsbD 18 = true := by decide +kernel

theorem witness_IrqOutputIsOrOfEnabledBits :
    FlagsOk { State.reset with irqStatus := 0x10 } ∧ State.reset.rst = false ∧ (0x10 : Word).getLsbD 4 = true :=
  ⟨⟨by decide, by decide⟩, rfl, by decide⟩

theorem witness_ConfigurationLatchedAtJoin :
    runEvent .dac State.reset = .next State.reset.dacStep ∧ Event.dac ≠ .rstAssert ∧ ¬runsCommand .dac (.join 0) :=
  ⟨rfl, by decide, dac_runs_no_command _⟩

/-- Just below and just above the window, with rst released. -/
theorem witness_OnlyForeignStimuliStopTheBlock :
    State.reset.rst = false ∧ ¬((0 : Int) ≤ -1 ∧ (-1 : Int) < 4096) ∧ ¬((0 : Int) ≤ 4096 ∧ (4096 : Int) < 4096) := by decide

/-- A fused loopback step and an RX step that count. -/
theorem witness_SampleCountersCountSteps :
    (after (runEvent .tx { State.reset with en := true, loopback := true })).rxSampleCnt = 1 ∧
    (after (runEvent .rx { State.reset with en := true, rxf := { Fifo.reset with w := 1, viewW := 1 } })).rxSampleCnt = 1 := by
  decide +kernel

theorem witness_DisabledCoreKeepsItsState :
    runEvent .tx State.reset = .next State.reset ∧ State.reset.en = false ∧ Event.tx ≠ .rstAssert ∧
    ∀ op, Event.tx ≠ .host op := ⟨rfl, rfl, by decide, by simp⟩

theorem witness_ResetRegisterValues : 2 ≤ 2 ∧ 2 < 512 ∧ 2 ≤ 511 ∧ 511 < 512 := by decide

theorem witness_ResetPinDiscardsState : pinEvent .tx = false ∧ pinEvent (.host (.write 0x014 0)) = false := ⟨rfl, rfl⟩

end Sys2Proof.Tests
end

section
/-! SUPPORT. Arithmetic that several proofs need: counters and fields of a register, windows of samples. -/

namespace Sys2Proof.Machine

/-- A counter below its largest value counts without wrapping. -/
theorem toNat_succ_of_lt {w : Nat} {x : BitVec w} (h : x.toNat + 1 < 2 ^ w) : (x + 1).toNat = x.toNat + 1 := by
  have hone : (1 : BitVec w).toNat = 1 := Nat.mod_eq_of_lt (show 1 < 2 ^ w by omega)
  rw [BitVec.toNat_add_of_lt] <;> rw [hone]
  exact h

/-- The number that two adjacent fields of a register form. -/
theorem toNat_append_eq {m n : Nat} (x : BitVec m) (y : BitVec n) : (x ++ y).toNat = 2 ^ n * x.toNat + y.toNat := by
  rw [BitVec.toNat_append, ← Nat.shiftLeft_add_eq_or_of_lt y.isLt, Nat.shiftLeft_eq, Nat.mul_comm]

/-- One more sample in a window of `p` that it does not fill. -/
theorem succ_div_mod_of_ne {n p : Nat} (hp : 0 < p) (h : n % p + 1 ≠ p) : (n + 1) / p = n / p ∧ (n + 1) % p = n % p + 1 := by
  have hlt := Nat.mod_lt n hp
  have hn := Nat.mod_add_div n p
  exact (Nat.div_mod_unique hp).mpr ⟨by omega, by omega⟩

/-- The sample that fills a window of `p`. -/
theorem succ_div_mod_of_eq {n p : Nat} (hp : 0 < p) (h : n % p + 1 = p) : (n + 1) / p = n / p + 1 ∧ (n + 1) % p = 0 := by
  have hn := Nat.mod_add_div n p
  exact (Nat.div_mod_unique hp).mpr ⟨by rw [Nat.mul_add_one]; omega, hp⟩

/-- A message that is not empty has at least one symbol. -/
theorem nsymTotal_pos {len o : Nat} (hlen : 0 < len) (ho : 1 ≤ o) : 0 < nsymTotal len o :=
  Nat.div_pos (by omega) ho

/-- A message of at most 256 bytes has at most 2048 symbols. -/
theorem nsymTotal_le {len o : Nat} (hlen : len ≤ 256) (ho : 1 ≤ o) : nsymTotal len o ≤ 2048 := by
  have : 8 * len + o - 1 ≤ 2048 * o + (o - 1) := by omega
  calc (8 * len + o - 1) / o ≤ (2048 * o + (o - 1)) / o := Nat.div_le_div_right this
    _ = 2048 := by rw [Nat.mul_comm, Nat.mul_add_div (by omega), Nat.div_eq_of_lt (by omega)]

end Sys2Proof.Machine
end

section
/-! SUPPORT. The receive operations field by field, what a sample writes of a channel, and what JOIN checks. -/

namespace Sys2Proof.Machine

open Sys2Proof.Safety

/-! ### The correlator and the symbol decision -/

theorem correlate_rx_winN (x : Sample) (ch : Channel) : (correlate x ch).rx.winN = ch.rx.winN + 1 := by
  simp only [correlate]
theorem correlate_rx_chunkCnt (x : Sample) (ch : Channel) : (correlate x ch).rx.chunkCnt = ch.rx.chunkCnt + 1 := by
  simp only [correlate]
theorem correlate_rx_framePos (x : Sample) (ch : Channel) : (correlate x ch).rx.framePos = ch.rx.framePos := by
  simp only [correlate]
theorem correlate_rx_nbits (x : Sample) (ch : Channel) : (correlate x ch).rx.nbits = ch.rx.nbits := by
  simp only [correlate]
theorem correlate_rx_asm (x : Sample) (ch : Channel) : (correlate x ch).rx.asm = ch.rx.asm := by
  simp only [correlate]

theorem correlate_rx_acc (x : Sample) (ch : Channel) (i : Lane) : (correlate x ch).rx.acc[i.val] =
    if i.val < 2 ^ ch.orderAct.toNat then accStep x ch.rx.acc[i.val] ch.rx.ref[i.val] else ch.rx.acc[i.val] := by
  simp [correlate, laneUsed]

theorem correlate_rx_ref (x : Sample) (ch : Channel) (i : Lane) : (correlate x ch).rx.ref[i.val] =
    if i.val < 2 ^ ch.orderAct.toNat then ch.rx.ref[i.val] + ch.ftw[i.val] else ch.rx.ref[i.val] := by
  simp [correlate, laneUsed]

theorem symbolDecide_rx_winN (ch : Channel) : (symbolDecide ch).rx.winN = 0 := rfl
theorem symbolDecide_rx_chunkCnt (ch : Channel) : (symbolDecide ch).rx.chunkCnt = ch.rx.chunkCnt := rfl
theorem symbolDecide_rx_framePos (ch : Channel) : (symbolDecide ch).rx.framePos = ch.rx.framePos := rfl
theorem symbolDecide_rx_nbits (ch : Channel) :
    (symbolDecide ch).rx.nbits = ch.rx.nbits + BitVec.ofNat 9 ch.orderAct.toNat := rfl

theorem symbolDecide_rx_acc (ch : Channel) (i : Lane) : (symbolDecide ch).rx.acc[i.val] = 0 := by
  simp [symbolDecide, windowRestart]

theorem symbolDecide_rx_ref (ch : Channel) (i : Lane) : (symbolDecide ch).rx.ref[i.val] = 0 := by
  simp [symbolDecide, windowRestart]

/-- An accumulator within `n` samples' reach stays within `n + 1` samples' reach, and the sum is exact (R70, R300). -/
theorem accStep_natAbs_le (x : Sample) (acc : Acc) (ref : Word) {n : Nat} (hn : n < 65535)
    (h : acc.toInt.natAbs ≤ n * (32768 * 16384)) :
    (accStep x acc ref).toInt.natAbs ≤ (n + 1) * (32768 * 16384) := by
  have hx : x.toInt.natAbs ≤ 32768 := by have := x.toInt_lt; have := x.le_toInt; omega
  have ha : (amp ref).natAbs ≤ 16384 := by have := amp_bounds ref; omega
  have hprod : (x.toInt * amp ref).natAbs ≤ 32768 * 16384 := by
    rw [Int.natAbs_mul]
    exact Nat.mul_le_mul hx ha
  rw [accStep, BitVec.toInt_ofInt_eq_self (by decide)] <;> omega

/-! ### The assembled stream (R68) -/

theorem asmBit_congr {rx rx' : RxState} (h : rx'.asm = rx.asm) (j : Nat) : asmBit rx' j = asmBit rx j := by
  rw [asmBit, asmBit, h]

theorem symbolBit_lt (s o t : Nat) : symbolBit s o t < 2 := Nat.mod_lt _ (by decide)

/-- OR-ing a bit into the stream leaves every other bit. -/
theorem asmBit_setAsmBit_of_ne (rx : RxState) {j k b : Nat} (hb : b < 2) (hk : k ≠ j) :
    asmBit { rx with asm := setAsmBit rx.asm j b } k = asmBit rx k := by
  simp only [asmBit, setAsmBit]
  split
  · next hj =>
    by_cases hkj : j / 8 = k / 8
    · have hbit : (BitVec.ofNat 8 (b * 2 ^ (7 - j % 8))).getLsbD (7 - k % 8) = false := by
        rcases (by omega : b = 0 ∨ b = 1) with rfl | rfl
        · simp
        · have hne : 7 - j % 8 ≠ 7 - k % 8 := by omega
          rw [Nat.one_mul, BitVec.getLsbD_ofNat, Nat.testBit_two_pow, decide_eq_false hne, Bool.and_false]
      have hk32 : k / 8 < 32 := hkj ▸ hj
      simp only [hkj, Vector.getElem?_set_self hk32, Vector.getElem?_eq_getElem hk32, Option.getD_some, BitVec.getLsbD_or,
        hbit, Bool.or_false]
    · rw [Vector.getElem?_set_ne _ hkj]
  · rfl

/-- The first `m` bits of a symbol, assembled from bit `n` on, leave the bits after them. -/
theorem asmBit_foldl_setAsmBit_of_le (rx : RxState) (s o n m : Nat) {k : Nat} (hk : n + m ≤ k) :
    asmBit { rx with asm := (List.range m).foldl (fun a t => setAsmBit a (n + t) (symbolBit s o t)) rx.asm } k =
      asmBit rx k := by
  induction m with
  | zero => rfl
  | succ m ih =>
    rw [List.range_succ, List.foldl_append, List.foldl_cons, List.foldl_nil]
    exact (asmBit_setAsmBit_of_ne { rx with asm := _ } (symbolBit_lt s o m) (by omega)).trans (ih (by omega))

/-- Past the decided symbol's bits the stream is as it was (R305). -/
theorem asmBit_symbolDecide_of_le (ch : Channel) {k : Nat} (h : ch.rx.nbits.toNat + ch.orderAct.toNat ≤ k) :
    asmBit (symbolDecide ch).rx k = asmBit ch.rx k :=
  (asmBit_congr rfl k).trans
    (asmBit_foldl_setAsmBit_of_le ch.rx (decideSymbol ch) ch.orderAct.toNat ch.rx.nbits.toNat ch.orderAct.toNat h)

/-- A message of at least one bit and at most 256 bits has 1 to 32 bytes. -/
theorem flushMessage_length {ch : Channel} (hlo : 1 ≤ ch.rx.nbits.toNat) (hhi : ch.rx.nbits.toNat ≤ 256) :
    1 ≤ (flushMessage ch).length ∧ (flushMessage ch).length ≤ 32 := by
  simp only [flushMessage, ceilDiv, List.length_take, Vector.length_toList]
  omega

/-! ### What a sample writes of a channel -/

/-- The frame writes only the receive state, the queue and the drop count. -/
theorem frameAdvance_frame (ch : Channel) :
    (frameAdvance ch).chan = { ch with
      rx := (frameAdvance ch).chan.rx, rxq := (frameAdvance ch).chan.rxq, rxqDrops := (frameAdvance ch).chan.rxqDrops } := by
  rcases frameAdvance_cases ch with ⟨-, hf⟩ | ⟨-, -, hf⟩ | ⟨-, -, hf⟩ <;> rw [hf]
  rcases flush_cases { ch with rx := { ch.rx with framePos := 0 } } with ⟨-, hfl⟩ | ⟨-, hfl⟩ <;> rw [hfl]

/-- A received sample writes only the receive state, the queue and the drop count of a channel. -/
theorem rxPart_frame (x : Sample) (ch : Channel) :
    (rxPart x ch).chan = { ch with
      rx := (rxPart x ch).chan.rx, rxq := (rxPart x ch).chan.rxq, rxqDrops := (rxPart x ch).chan.rxqDrops } := by
  rcases rxPart_cases x ch with ⟨-, hp⟩ | ⟨-, hp⟩ <;> rw [hp]
  refine (frameAdvance_frame (windowCheck (correlate x ch))).trans ?_
  simp [correlatorStep]

/-- The NCO step advances the active entry of a playing channel, and no other entry (R270). -/
theorem txPart_phase_getElem (rd : Nat → Byte) (ch : Channel) (i : Lane) :
    (txPart rd ch).chan.phase[i.val] =
      if ch.playing = true ∧ i = laneOf (currentSymbol rd ch) then ch.phase[i.val] + ch.ftw[i.val] else ch.phase[i.val] := by
  rcases txPart_cases rd ch with ⟨hplay, hp⟩ | ⟨hplay, hp⟩ <;> rw [hp]
  · simp [hplay]
  · simp only [ncoStep, cursorAdvance_phase, phaseAdvance, hplay, true_and]
    by_cases hi : i = laneOf (currentSymbol rd ch)
    · subst hi; simp
    · rw [if_neg hi, Vector.getElem_set_ne _ _ fun e => hi (Fin.ext e.symm)]

/-! ### JOIN -/

/-- JOIN's checks pass exactly where R204 lets the channel join. -/
theorem joinCheck_eq_ok_iff (s : State) (c : Chan) : joinCheck s.sampleRate (s.chan c) = .ok ↔ Joinable s c := by
  have hchunk : ∀ f p o, chunkBytesMax f p o = ((4 + (f - 1) / p) * o + 7) / 8 := fun _ _ _ => rfl
  simp only [joinCheck, symbolPeriod, roundHalfUp, hchunk]
  constructor
  · intro h
    split_ifs at h with hjoined horder hrate hsym hperiod hframe
    obtain ⟨hframeLo, hframeHi, hbytes⟩ : _ ∧ _ ∧ _ := by simpa only [not_or, not_lt] using hframe
    exact ⟨Bool.eq_false_iff.mpr hjoined, by omega, by omega, hrate, hsym, by omega, by omega, hframeLo, hframeHi, hbytes⟩
  · intro ⟨hfree, horderLo, horderHi, hrate, hsym, hperiodLo, hperiodHi, hframeLo, hframeHi, hbytes⟩
    rw [if_neg (by simp [hfree]), if_neg (by omega), if_neg hrate, if_neg hsym, if_neg (by omega),
      if_neg (by simp only [not_or, not_lt]; exact ⟨hframeLo, hframeHi, hbytes⟩)]

end Sys2Proof.Machine
end

section
/-! SUPPORT. What one event can do to a channel and to the rest of the state (spec/00_scope.md R6): one case for each
writer. -/

namespace Sys2Proof.Machine

open Sys2Proof.Safety

/-! ### The register space -/

/-- Among the global registers only word 5 is CMD (R36). -/
theorem eq_of_globalReg_cmd {word : Nat} (h : globalReg word = .cmd) : word = 5 := by
  unfold globalReg at h
  split at h <;> cases h
  rfl

/-- In the register space only word 5 is CMD (R101). -/
theorem word_of_regAt_cmd {a : BitVec 12} (h : regAt a = .cmd) : a.toNat / 4 = 5 := by
  simp only [regAt] at h
  split_ifs at h
  exact eq_of_globalReg_cmd h

/-- An access in the window that names CMD lies in CMD's word, so it is a write to CMD (R36, R107). -/
theorem cmdWritten_of_regAt {off : Int} (v : Word) (hw : inWindow off = true) (h : regAt (offsetBits off) = .cmd) :
    cmdWritten (.host (.write off v)) = some v := by
  obtain ⟨h0, h1⟩ : 0 ≤ off ∧ off < 4096 := of_decide_eq_true hw
  have hword := word_of_regAt_cmd h
  rw [offsetBits, BitVec.toNat_ofInt] at hword
  exact if_pos (by omega)

/-- Word `k` of channel `c`'s block is its register `k` (10 section 3). -/
theorem regAt_chb : ∀ (c : Chan) (k : Fin 16), regAt (offsetBits (chb c + 4 * k.val)) = .chan c (chanReg k.val) := by
  decide

theorem inWindow_chb : ∀ (c : Chan) (k : Fin 16), inWindow (chb c + 4 * k.val) = true := by decide

theorem readAt_chb (s : State) (c : Chan) (k : Fin 16) :
    readAt s (chb c + 4 * k.val) = readChanReg (s.chan c) (chanReg k.val) := by
  rw [readAt, regAt_chb, readReg]

/-! ### Scheduled events -/

/-- All that a scheduled event can do: wait for rst, or run. -/
theorem runEvent_next_cases {e : Event} {s t : State} (h : runEvent e s = .next t) :
    (s.rst = true ∧ pinEvent e = false ∧ t = s) ∨ ((s.rst = false ∨ pinEvent e = true) ∧ agentStep e s = .next t) := by
  rcases Bool.eq_false_or_eq_true s.rst with hr | hr
  · rcases Bool.eq_false_or_eq_true (pinEvent e) with hp | hp
    · exact .inr ⟨.inr hp, runEvent_runs e s (.inr hp) ▸ h⟩
    · cases (runEvent_held e s hr hp).symm.trans h
      exact .inl ⟨hr, hp, rfl⟩
  · exact .inr ⟨.inl hr, runEvent_runs e s (.inl hr) ▸ h⟩

/-- Taking an entry from the schedule touches no channel. -/
theorem chan_takeEvent (s : State) (c : Chan) : (takeEvent s).chan c = s.chan c := by
  unfold takeEvent
  split <;> rfl

/-! ### The writers of a channel -/

/-- All that one event does to channel `c`: what it makes of the channel, writer by writer. -/
inductive ChannelChange (e : Event) (s : State) (c : Chan) : Channel → Prop
  | same : ChannelChange e s c (s.chan c)
  | reset (he : e = .rstAssert) : ChannelChange e s c Channel.reset
  | regWrite (v : Word) (r : ChanReg) : ChannelChange e s c (writeChanReg (s.chan c) v r)
  | stageWrite (j : Nat) (v : Word) : ChannelChange e s c (writeStage (s.chan c) j v)
  | join (hc : runsCommand e (.join c.val)) (h : Joinable s c) :
      ChannelChange e s c (joinChannel s.sampleRate (s.chan c))
  | leave : ChannelChange e s c (leaveChannel (s.chan c))
  | send (hj : (s.chan c).joined = true) (hl : (s.chan c).txLen.toNat ≤ 256) :
      ChannelChange e s c (startMessage (s.chan c))
  | rxReset : ChannelChange e s c (s.chan c).rxClear
  | rxqPop (m : List Byte) (rest : List (List Byte)) (hq : (s.chan c).rxq = m :: rest) :
      ChannelChange e s c { s.chan c with rxq := rest }
  | transmit (he : e = .tx) : ChannelChange e s c (s.txSlot c).chan
  | transmitLoopback (he : e = .tx) (x : Sample) : ChannelChange e s c (rxPart x (s.txSlot c).chan).chan
  | receive (x : Sample) : ChannelChange e s c (rxPart x (s.chan c)).chan

/-- A write to one channel is a change of that channel and leaves the others. -/
theorem ChannelChange.setChan {e : Event} {s : State} {c : Chan} {ch : Channel} (h : ChannelChange e s c ch) (d : Chan) :
    ChannelChange e s d ((s.setChan c ch).chan d) := by
  by_cases hd : d = c
  · subst hd; rwa [chan_setChan_self]
  · rw [chan_setChan_of_ne s hd]; exact .same

/-- A channel command changes the channels as its body does. -/
theorem ChannelChange.channelCommand {e : Event} {s : State} (op : Byte) (ch : Nat)
    {body : Chan → State → ResultCode × State} (d : Chan)
    (h : ∀ c : Chan, c.val = ch → ChannelChange e s d ((body c s).2.chan d)) :
    ChannelChange e s d ((Machine.channelCommand op ch s body).chan d) := by
  rcases chanOperand_cases ch with ⟨hch, -⟩ | ⟨c, rfl, -⟩
  · rw [channelCommand_bad op hch, chan_complete]; exact .same
  · rw [channelCommand_val, chan_complete]; exact h c rfl

/-! ### BROADCAST, channel by channel -/

/-- One turn of BROADCAST's loop leaves the other channels. -/
theorem chan_broadcastTurn_of_ne (r : ResultCode × State) {c d : Chan} (h : d ≠ c) :
    (broadcastTurn r c).2.chan d = r.2.chan d := by
  rcases broadcastTurn_cases r.1 r.2 c with ⟨-, ht⟩ | ⟨-, -, ht⟩ | ⟨-, -, ht⟩ <;> rw [ht]
  rw [chan_raise, chan_setChan_of_ne _ h]

/-- One turn of BROADCAST's loop leaves its own channel, or starts its message. -/
theorem chan_broadcastTurn_self (r : ResultCode × State) (c : Chan) :
    (broadcastTurn r c).2.chan c = r.2.chan c ∨
    ((r.2.chan c).joined = true ∧ (r.2.chan c).txLen.toNat ≤ 256 ∧
      (broadcastTurn r c).2.chan c = startMessage (r.2.chan c)) := by
  rcases broadcastTurn_cases r.1 r.2 c with ⟨-, ht⟩ | ⟨-, -, ht⟩ | ⟨hj, hl, ht⟩ <;> rw [ht]
  · exact .inl rfl
  · exact .inl rfl
  · exact .inr ⟨hj, hl, by rw [chan_raise, chan_setChan_self]⟩

/-- BROADCAST's loop leaves a channel that is not among its turns. -/
theorem chan_foldl_broadcastTurn_of_not_mem (cs : List Chan) (r : ResultCode × State) {d : Chan} (h : d ∉ cs) :
    (cs.foldl broadcastTurn r).2.chan d = r.2.chan d := by
  induction cs generalizing r with
  | nil => rfl
  | cons c cs ih =>
    obtain ⟨hc, hcs⟩ := List.ne_and_not_mem_of_not_mem_cons h
    rw [List.foldl_cons, ih _ hcs, chan_broadcastTurn_of_ne r hc]

/-- BROADCAST's loop, each channel having one turn, leaves a channel or starts its message. -/
theorem chan_foldl_broadcastTurn (cs : List Chan) (hcs : cs.Nodup) (r : ResultCode × State) (d : Chan) :
    (cs.foldl broadcastTurn r).2.chan d = r.2.chan d ∨
    ((r.2.chan d).joined = true ∧ (r.2.chan d).txLen.toNat ≤ 256 ∧
      (cs.foldl broadcastTurn r).2.chan d = startMessage (r.2.chan d)) := by
  induction cs generalizing r with
  | nil => exact .inl rfl
  | cons c cs ih =>
    obtain ⟨hc, hcs⟩ := List.nodup_cons.mp hcs
    rw [List.foldl_cons]
    by_cases hd : d = c
    · subst hd
      rw [chan_foldl_broadcastTurn_of_not_mem cs _ hc]
      exact chan_broadcastTurn_self r d
    · rw [← chan_broadcastTurn_of_ne r hd]
      exact ih hcs _

/-! ### Commands, writes and agents -/

/-- All that a command does to a channel. -/
theorem exec_channelChange {e : Event} {i : Instr} {s t : State} (hrun : runsCommand e i) (h : exec i s = .next t)
    (d : Chan) : ChannelChange e s d (t.chan d) := by
  cases i with
  | nop => cases h; exact .same
  | join ch =>
    cases h
    refine .channelCommand 0x01 ch d fun c hc => ?_
    subst hc
    rcases joinCore_cases c s with ⟨hok, hb⟩ | ⟨-, hb⟩ <;> rw [hb]
    · exact ChannelChange.setChan (.join hrun ((joinCheck_eq_ok_iff s c).mp hok)) d
    · exact .same
  | leave ch =>
    cases h
    refine .channelCommand 0x02 ch d fun c _ => ?_
    rcases leaveCore_cases c s with ⟨-, hb⟩ | ⟨-, hb⟩ <;> rw [hb]
    · exact ChannelChange.setChan .leave d
    · exact .same
  | send ch =>
    cases h
    refine .channelCommand 0x03 ch d fun c _ => ?_
    rcases sendJoined_cases c s with ⟨hj, hb⟩ | ⟨-, hb⟩ <;> rw [hb]
    · rcases sendCore_cases c s with ⟨-, hs⟩ | ⟨hl, hs⟩ <;> rw [hs]
      · exact .same
      · rw [chan_raise]; exact ChannelChange.setChan (.send hj hl) d
    · exact .same
  | broadcast =>
    cases h
    rw [chan_complete]
    rcases chan_foldl_broadcastTurn allChans (by decide) (.ok, s) d with hb | ⟨hj, hl, hb⟩
    · rw [broadcastAll, hb]; exact .same
    · rw [broadcastAll, hb]; exact .send hj hl
  | rxReset ch =>
    cases h
    refine .channelCommand 0x05 ch d fun c _ => ?_
    rcases rxResetCore_cases c s with ⟨-, hb⟩ | ⟨-, hb⟩ <;> rw [hb]
    · exact ChannelChange.setChan .rxReset d
    · exact .same
  | rxqPop ch =>
    cases h
    refine .channelCommand 0x06 ch d fun c _ => ?_
    rcases rxqPopCore_cases c s with ⟨-, m, rest, hq, hb⟩ | ⟨-, -, hb⟩ | ⟨-, hb⟩ <;> rw [hb]
    · exact ChannelChange.setChan (.rxqPop m rest hq) d
    · exact .same
    · exact .same
  | rxfDiscard => cases h; exact .same

/-- All that a register write does to a channel. -/
theorem writeReg_channelChange {off : Int} {v : Word} {s t : State} (hw : inWindow off = true)
    (h : writeReg s v (regAt (offsetBits off)) = .next t) (d : Chan) :
    ChannelChange (.host (.write off v)) s d (t.chan d) := by
  generalize hr : regAt (offsetBits off) = r at h
  cases r with
  | cmd =>
    rcases commandWrite_cases v s with ⟨i, hi, hc⟩ | ⟨_, -, hc⟩
    · exact exec_channelChange ⟨v, cmdWritten_of_regAt v hw hr, hi⟩ (hc.symm.trans h) d
    · cases hc.symm.trans h
      exact .same
  | chan c r => cases h; exact ChannelChange.setChan (.regWrite v r) d
  | stageWin c j => cases h; exact ChannelChange.setChan (.stageWrite j v) d
  | _ => cases h; exact .same

/-- All that one agent's step does to a channel. -/
theorem agentStep_channelChange {e : Event} {s t : State} (h : agentStep e s = .next t) (c : Chan) :
    ChannelChange e s c (t.chan c) := by
  cases e with
  | host op =>
    rcases hostStep_cases op s with ⟨off, -, -, hs⟩ | ⟨off, v, rfl, hw, hs⟩ | ⟨r, hs⟩
    · cases hs.symm.trans h
      exact .same
    · exact writeReg_channelChange hw (hs.symm.trans h) c
    · cases hs.symm.trans h
  | tx =>
    cases h
    rcases txStep_cases s with ⟨-, hs⟩ | ⟨-, -, hs⟩ | ⟨-, -, hs⟩ <;> rw [hs]
    · exact .same
    · rw [chan_txProduce]; exact .transmit rfl
    · rw [chan_rxFeed, State.rxSlot, chan_txProduce]; exact .transmitLoopback rfl _
  | rx =>
    cases h
    rcases rxStep_cases s with ⟨-, hs⟩ | ⟨-, hs⟩ <;> rw [hs]
    · exact .same
    · rw [chan_rxFeed]; exact .receive _
  | dac => cases h; rw [State.dacStep]; split <;> exact .same
  | adc x => cases h; rw [State.adcStep]; split_ifs <;> exact .same
  | syncW f v => cases h; rw [State.syncWStep, chan_setFifo]; exact .same
  | syncR f v => cases h; rw [State.syncRStep, chan_setFifo]; exact .same
  | syncEnDac => cases h; exact .same
  | syncEnAdc => cases h; exact .same
  | syncUnd => cases h; rw [State.syncUnd]; split <;> exact .same
  | syncOvf => cases h; rw [State.syncOvf]; split <;> exact .same
  | rstAssert => cases h; rw [chan_assertReset]; exact .reset rfl
  | rstRelease => cases h; exact .same
  | rstOneDomain d => cases h

/-- All that one scheduled event does to a channel. -/
theorem runEvent_channelChange {e : Event} {s t : State} (h : runEvent e s = .next t) (c : Chan) :
    ChannelChange e s c (t.chan c) := by
  rcases runEvent_cases e s with hs | hs
  · cases hs.symm.trans h
    exact .same
  · exact agentStep_channelChange (hs.symm.trans h) c

/-! ### What a command leaves unchanged -/

/-- `t` differs from `s` at most where commands write: CMD_RESULT, IRQ_STATUS, the channels and RXF (40 R200). -/
def CommandWrites (s t : State) : Prop :=
  t = { s with cmdResult := t.cmdResult, irqStatus := t.irqStatus, chans := t.chans, rxf := t.rxf }

theorem CommandWrites.refl (s : State) : CommandWrites s s := rfl

theorem CommandWrites.trans {s t u : State} (hst : CommandWrites s t) (htu : CommandWrites t u) : CommandWrites s u :=
  Eq.trans htu (by rw [hst])

theorem CommandWrites.sampleCnt_eq {s t : State} (h : CommandWrites s t) : t.sampleCnt = s.sampleCnt := by
  rw [CommandWrites] at h
  rw [h]

theorem CommandWrites.rxSampleCnt_eq {s t : State} (h : CommandWrites s t) : t.rxSampleCnt = s.rxSampleCnt := by
  rw [CommandWrites] at h
  rw [h]

theorem CommandWrites.complete {s t : State} (h : CommandWrites s t) (op : Byte) (ch : BitVec 4) (code : ResultCode) :
    CommandWrites s (Machine.complete op ch code t) :=
  h.trans rfl

theorem CommandWrites.channelCommand (op : Byte) (ch : Nat) (s : State) {body : Chan → State → ResultCode × State}
    (h : ∀ c, CommandWrites s (body c s).2) : CommandWrites s (Machine.channelCommand op ch s body) := by
  rcases chanOperand_cases ch with ⟨hch, -⟩ | ⟨c, rfl, -⟩
  · rw [channelCommand_bad op hch]; exact (CommandWrites.refl s).complete _ _ _
  · rw [channelCommand_val]; exact (h c).complete _ _ _

theorem sendCore_commandWrites (c : Chan) (s : State) : CommandWrites s (sendCore c s).2 := by
  rcases sendCore_cases c s with ⟨-, hb⟩ | ⟨-, hb⟩ <;> rw [hb] <;> rfl

theorem foldl_broadcastTurn_commandWrites (cs : List Chan) (r : ResultCode × State) :
    CommandWrites r.2 (cs.foldl broadcastTurn r).2 := by
  induction cs generalizing r with
  | nil => rfl
  | cons c cs ih =>
    refine CommandWrites.trans ?_ (ih _)
    rcases broadcastTurn_cases r.1 r.2 c with ⟨-, ht⟩ | ⟨-, -, ht⟩ | ⟨-, -, ht⟩ <;> rw [ht] <;> rfl

/-- A command writes nothing but CMD_RESULT, IRQ_STATUS, the channels and RXF. -/
theorem exec_commandWrites {i : Instr} {s t : State} (h : exec i s = .next t) : CommandWrites s t := by
  cases i with
  | nop => cases h; rfl
  | join ch =>
    cases h
    refine .channelCommand _ _ _ fun c => ?_
    rcases joinCore_cases c s with ⟨-, hb⟩ | ⟨-, hb⟩ <;> rw [hb] <;> rfl
  | leave ch =>
    cases h
    refine .channelCommand _ _ _ fun c => ?_
    rcases leaveCore_cases c s with ⟨-, hb⟩ | ⟨-, hb⟩ <;> rw [hb] <;> rfl
  | send ch =>
    cases h
    refine .channelCommand _ _ _ fun c => ?_
    rcases sendJoined_cases c s with ⟨-, hb⟩ | ⟨-, hb⟩ <;> rw [hb]
    · exact sendCore_commandWrites c s
    · rfl
  | broadcast => cases h; exact (foldl_broadcastTurn_commandWrites allChans (.ok, s)).complete _ _ _
  | rxReset ch =>
    cases h
    refine .channelCommand _ _ _ fun c => ?_
    rcases rxResetCore_cases c s with ⟨-, hb⟩ | ⟨-, hb⟩ <;> rw [hb] <;> rfl
  | rxqPop ch =>
    cases h
    refine .channelCommand _ _ _ fun c => ?_
    rcases rxqPopCore_cases c s with ⟨-, _, _, -, hb⟩ | ⟨-, -, hb⟩ | ⟨-, hb⟩ <;> rw [hb] <;> rfl
  | rxfDiscard => cases h; rfl

end Sys2Proof.Machine
end

section
/-! SUPPORT. The channel invariant (spec/10_state.md R70), part by part: which fields each part reads, and that everything
that can happen to a channel keeps it. -/

namespace Sys2Proof.Safety

open Sys2Proof.Machine

/-! ### What each part of the invariant reads -/

/-- Two channels have the same latched engine. -/
structure SameEngine (a b : Channel) : Prop where
  order : b.orderAct = a.orderAct
  period : b.pAct = a.pAct
  frame : b.frameAct = a.frameAct
  ftw : b.ftw = a.ftw

theorem QueueOk.of_rxq_eq {a b : Channel} (h : QueueOk a) (e : b.rxq = a.rxq) : QueueOk b :=
  ⟨e ▸ h.depth, e ▸ h.sizes⟩

theorem EngineOk.of_sameEngine {a b : Channel} (h : EngineOk a) (e : SameEngine a b) : EngineOk b := by
  obtain ⟨ho, hp, hf, ht⟩ := e
  constructor <;> simp only [ho, hp, hf, ht]
  exacts [h.orderLo, h.orderHi, h.period, h.frameLo, h.frameHi, h.chunk, h.ftwZero]

theorem RxOk.of_sameEngine {a b : Channel} (h : RxOk a) (e : SameEngine a b) (hrx : b.rx = a.rx) : RxOk b := by
  obtain ⟨ho, hp, hf, ht⟩ := e
  constructor <;> simp only [ho, hp, hf, ht, hrx]
  exacts [h.window, h.position, h.frame, h.chunk, h.bits, h.bitsMax, h.ref, h.acc, h.unused, h.zeros]

theorem TxOk.of_sameEngine {a b : Channel} (h : TxOk a) (e : SameEngine a b) (hj : b.joined = a.joined)
    (hl : b.actLen = a.actLen) (hb : b.txBusy = a.txBusy) (hy : b.txSym = a.txSym) (hs : b.txSamp = a.txSamp) : TxOk b := by
  constructor <;> simp only [hj, e.order, e.period, hl, hb, hy, hs]
  exacts [h.len, h.busyJoined, h.sym, h.samp]

/-- A channel that plays nothing meets the transmit part. -/
theorem TxOk.of_idle {ch : Channel} (hlen : ch.actLen.toNat ≤ 256) (hb : ch.txBusy = false) : TxOk ch := by
  have hno : ch.txBusy ≠ true := by simp [hb]
  exact ⟨hlen, fun h => absurd h hno, fun h => absurd h hno, fun h => absurd h hno⟩

/-- The invariant of `b` from that of `a`, where the two differ only in fields the invariant does not read. -/
theorem ChannelOk.of_sameEngine {a b : Channel} (h : ChannelOk a) (e : SameEngine a b) (hj : b.joined = a.joined)
    (hq : b.rxq = a.rxq) (hrx : b.rx = a.rx) (hl : b.actLen = a.actLen) (hb : b.txBusy = a.txBusy)
    (hy : b.txSym = a.txSym) (hs : b.txSamp = a.txSamp) : ChannelOk b where
  queue := h.queue.of_rxq_eq hq
  tx := h.tx.of_sameEngine e hj hl hb hy hs
  engine := fun g => (h.engine (hj.symm.trans g)).of_sameEngine e
  rx := fun g => (h.rx (hj.symm.trans g)).of_sameEngine e hrx

/-! ### The cleared receive state, and reset -/

theorem asmBit_clear (j : Nat) : asmBit RxState.clear j = false := by
  simp only [asmBit, RxState.clear, Vector.getElem?_replicate]
  split <;> simp

/-- The cleared receive state meets the receive part of every engine. -/
theorem RxOk.of_clear {ch : Channel} (he : EngineOk ch) (h : ch.rx = RxState.clear) : RxOk ch where
  window := by rw [h]; exact he.period
  position := by simp [h, RxState.clear]
  frame := by rw [h]; exact he.frameLo
  chunk := by simp [h, RxState.clear]
  bits := by simp [h, RxState.clear]
  bitsMax := by simp [h, RxState.clear]
  ref := fun i _ => by simp [h, RxState.clear]
  acc := fun i => by simp [h, RxState.clear]
  unused := fun i _ => by simp [h, RxState.clear]
  zeros := fun j _ => h ▸ asmBit_clear j

theorem ChannelOk.reset : ChannelOk Channel.reset where
  queue := ⟨by simp [Channel.reset], by simp [Channel.reset]⟩
  tx := .of_idle (by decide) rfl
  engine := fun h => absurd h (by decide)
  rx := fun h => absurd h (by decide)

/-! ### R70's facts -/

theorem RxOk.ref_toNat {ch : Channel} (h : RxOk ch) (i : Lane) (hi : i.val < 2 ^ ch.orderAct.toNat) :
    ch.rx.ref[i.val].toNat = ch.rx.winN.toNat * ch.ftw[i.val].toNat % 2 ^ 32 := by
  rw [h.ref i hi, BitVec.toNat_ofNat]

theorem RxOk.acc_bounds {ch : Channel} (h : RxOk ch) (i : Lane) :
    ch.rx.acc[i.val].toInt.natAbs ≤ ch.rx.winN.toNat * 32768 * 16384 ∧ ch.rx.acc[i.val].toInt.natAbs < 2 ^ 45 := by
  have hacc := h.acc i
  have hw := h.window
  have hp := ch.pAct.isLt
  exact ⟨Nat.mul_assoc _ _ _ ▸ hacc, by omega⟩

theorem RxOk.chunkCnt_le {ch : Channel} (h : RxOk ch) :
    ch.rx.chunkCnt.toNat ≤ 4 * ch.pAct.toNat - 1 + ch.frameAct.toNat :=
  h.chunk.trans (Nat.add_le_add_left h.frame.le _)

theorem RxOk.chunkCnt_lt {ch : Channel} (h : RxOk ch) (he : EngineOk ch) : ch.rx.chunkCnt.toNat < 2 ^ 19 := by
  have hc := h.chunkCnt_le
  have hf := he.frameHi
  have hp := ch.pAct.isLt
  omega

/-! ### The host's writes and the commands -/

theorem ChannelOk.writeChanReg {ch : Channel} (h : ChannelOk ch) (v : Word) (r : ChanReg) :
    ChannelOk (Machine.writeChanReg ch v r) := by
  cases r <;> exact h.of_sameEngine ⟨rfl, rfl, rfl, rfl⟩ rfl rfl rfl rfl rfl rfl rfl

theorem ChannelOk.writeStage {ch : Channel} (h : ChannelOk ch) (j : Nat) (v : Word) :
    ChannelOk (Machine.writeStage ch j v) :=
  h.of_sameEngine ⟨rfl, rfl, rfl, rfl⟩ rfl rfl rfl rfl rfl rfl rfl

/-- JOIN builds an engine that R51, R52 and R204 accept. -/
theorem EngineOk.joinChannel {s : State} {c : Chan} (h : Joinable s c) :
    EngineOk (Machine.joinChannel s.sampleRate (s.chan c)) := by
  have hp : (Machine.joinChannel s.sampleRate (s.chan c)).pAct.toNat =
      (2 * s.sampleRate.toNat + (s.chan c).symbolRate.toNat) / (2 * (s.chan c).symbolRate.toNat) :=
    Nat.mod_eq_of_lt (Nat.lt_succ_of_le h.periodHi)
  exact
    { orderLo := h.orderLo
      orderHi := h.orderHi
      period := hp ▸ h.periodLo
      frameLo := h.frameLo
      frameHi := h.frameHi
      chunk := by rw [hp]; exact h.chunk
      ftwZero := fun i hi => by
        simp only [Machine.joinChannel, Vector.getElem_ofFn]
        exact if_neg (Nat.not_lt.mpr hi) }

theorem ChannelOk.joinChannel {s : State} {c : Chan} (h : Joinable s c) :
    ChannelOk (Machine.joinChannel s.sampleRate (s.chan c)) :=
  have he := EngineOk.joinChannel h
  { queue := ⟨Nat.zero_le _, fun _ hm => absurd hm List.not_mem_nil⟩
    tx := .of_idle (Nat.zero_le _) rfl
    engine := fun _ => he
    rx := fun _ => .of_clear he rfl }

theorem ChannelOk.leaveChannel (ch : Channel) : ChannelOk (Machine.leaveChannel ch) where
  queue := ⟨Nat.zero_le _, fun _ hm => absurd hm List.not_mem_nil⟩
  tx := .of_idle (Nat.zero_le _) rfl
  engine := fun h => Bool.noConfusion h
  rx := fun h => Bool.noConfusion h

theorem ChannelOk.startMessage {ch : Channel} (h : ChannelOk ch) (hj : ch.joined = true) (hlen : ch.txLen.toNat ≤ 256) :
    ChannelOk (Machine.startMessage ch) where
  queue := h.queue.of_rxq_eq rfl
  tx :=
    { len := hlen
      busyJoined := fun _ => hj
      sym := fun hb => by
        have hne : ch.txLen ≠ 0 := of_decide_eq_true hb
        have hpos : 0 < ch.txLen.toNat := by
          rcases Nat.eq_zero_or_pos ch.txLen.toNat with h0 | h0
          · exact absurd (BitVec.eq_of_toNat_eq h0) hne
          · exact h0
        exact nsymTotal_pos hpos (h.engine hj).orderLo
      samp := fun _ => (h.engine hj).period }
  engine := fun _ => (h.engine hj).of_sameEngine ⟨rfl, rfl, rfl, rfl⟩
  rx := fun _ => (h.rx hj).of_sameEngine ⟨rfl, rfl, rfl, rfl⟩ rfl

theorem ChannelOk.rxClear {ch : Channel} (h : ChannelOk ch) : ChannelOk ch.rxClear where
  queue := h.queue.of_rxq_eq rfl
  tx := h.tx.of_sameEngine ⟨rfl, rfl, rfl, rfl⟩ rfl rfl rfl rfl rfl
  engine := fun hj => (h.engine hj).of_sameEngine ⟨rfl, rfl, rfl, rfl⟩
  rx := fun hj => .of_clear ((h.engine hj).of_sameEngine ⟨rfl, rfl, rfl, rfl⟩) rfl

theorem ChannelOk.dequeue {ch : Channel} (h : ChannelOk ch) {m : List Byte} {rest : List (List Byte)}
    (hq : ch.rxq = m :: rest) : ChannelOk { ch with rxq := rest } where
  queue := by
    obtain ⟨hd, hs⟩ := h.queue
    rw [hq] at hd hs
    exact ⟨by simp at hd ⊢; omega, fun x hx => hs x (List.mem_cons_of_mem m hx)⟩
  tx := h.tx.of_sameEngine ⟨rfl, rfl, rfl, rfl⟩ rfl rfl rfl rfl rfl
  engine := fun hj => (h.engine hj).of_sameEngine ⟨rfl, rfl, rfl, rfl⟩
  rx := fun hj => (h.rx hj).of_sameEngine ⟨rfl, rfl, rfl, rfl⟩ rfl

/-! ### The transmit side of a TX sample step -/

/-- Inside a message the cursor's symbol number does not wrap. -/
theorem TxOk.txSym_succ {ch : Channel} (h : TxOk ch) (hb : ch.txBusy = true) (ho : 1 ≤ ch.orderAct.toNat) :
    (ch.txSym + 1).toNat = ch.txSym.toNat + 1 := by
  have hsym := h.sym hb
  have hmax := nsymTotal_le h.len ho
  exact toNat_succ_of_lt (by omega)

theorem TxOk.cursorAdvance {ch : Channel} (h : TxOk ch) (he : EngineOk ch) (hb : ch.txBusy = true) :
    TxOk (Machine.cursorAdvance ch) := by
  have hsamp := h.samp hb
  have hsym := h.sym hb
  have hnext := h.txSym_succ hb he.orderLo
  rcases cursorAdvance_cases ch with ⟨hp, -, hc⟩ | ⟨-, hn, -, hc⟩ | ⟨-, -, -, hc⟩ <;> rw [hc]
  · refine ⟨h.len, h.busyJoined, h.sym, fun _ => ?_⟩
    show (ch.txSamp + 1).toNat < ch.pAct.toNat
    have hne : (ch.txSamp + 1).toNat ≠ ch.pAct.toNat := fun e => hp (BitVec.eq_of_toNat_eq e)
    have hsucc := toNat_succ_of_lt (x := ch.txSamp) (by have := ch.pAct.isLt; omega)
    omega
  · refine ⟨h.len, h.busyJoined, fun _ => ?_, fun _ => he.period⟩
    show (ch.txSym + 1).toNat < nsymTotal ch.actLen.toNat ch.orderAct.toNat
    omega
  · exact .of_idle h.len rfl

theorem ChannelOk.cursorAdvance {ch : Channel} (h : ChannelOk ch) (hj : ch.joined = true) (hb : ch.txBusy = true) :
    ChannelOk (Machine.cursorAdvance ch) :=
  have hsame : SameEngine ch (Machine.cursorAdvance ch) := ⟨by simp, by simp, by simp, by simp⟩
  { queue := h.queue.of_rxq_eq (by simp)
    tx := h.tx.cursorAdvance (h.engine hj) hb
    engine := fun _ => (h.engine hj).of_sameEngine hsame
    rx := fun _ => (h.rx hj).of_sameEngine hsame (by simp) }

theorem ChannelOk.txPart {ch : Channel} (h : ChannelOk ch) (rd : Nat → Byte) : ChannelOk (Machine.txPart rd ch).chan := by
  rcases txPart_cases rd ch with ⟨-, hp⟩ | ⟨hplay, hp⟩ <;> rw [hp]
  · exact h
  · obtain ⟨hj, hb⟩ : ch.joined = true ∧ ch.txBusy = true := by simpa [Channel.playing] using hplay
    have hphase : ChannelOk (phaseAdvance (laneOf (currentSymbol rd ch)) ch) :=
      h.of_sameEngine ⟨rfl, rfl, rfl, rfl⟩ rfl rfl rfl rfl rfl rfl rfl
    exact hphase.cursorAdvance hj hb

/-! ### The receive side of a sample step -/

/-- The receive state between the window check and the frame: as in `RxOk`, but the sample is not yet counted in
FRAME_POS. -/
structure WindowOk (ch : Channel) : Prop where
  window : ch.rx.winN.toNat < ch.pAct.toNat
  position : ch.rx.winN.toNat = ch.rx.chunkCnt.toNat % ch.pAct.toNat
  frame : ch.rx.framePos.toNat < ch.frameAct.toNat
  chunk : ch.rx.chunkCnt.toNat ≤ 4 * ch.pAct.toNat + ch.rx.framePos.toNat
  bits : ch.rx.nbits.toNat = ch.orderAct.toNat * (ch.rx.chunkCnt.toNat / ch.pAct.toNat)
  ref : ∀ i : Lane, i.val < 2 ^ ch.orderAct.toNat →
    ch.rx.ref[i.val] = BitVec.ofNat 32 (ch.rx.winN.toNat * ch.ftw[i.val].toNat)
  acc : ∀ i : Lane, ch.rx.acc[i.val].toInt.natAbs ≤ ch.rx.winN.toNat * (32768 * 16384)
  unused : ∀ i : Lane, 2 ^ ch.orderAct.toNat ≤ i.val → ch.rx.acc[i.val] = 0 ∧ ch.rx.ref[i.val] = 0
  zeros : ∀ j : Nat, ch.rx.nbits.toNat ≤ j → asmBit ch.rx j = false

/-- A chunk that runs at most into the frame that completes it holds at most 256 bits (R207). -/
theorem EngineOk.bits_le {ch : Channel} (h : EngineOk ch) {n fp : Nat} (hfp : fp < ch.frameAct.toNat)
    (hn : n ≤ 4 * ch.pAct.toNat + fp) : ch.orderAct.toNat * (n / ch.pAct.toNat) ≤ 256 := by
  have hp := h.period
  have hdiv : n / ch.pAct.toNat ≤ 4 + (ch.frameAct.toNat - 1) / ch.pAct.toNat := by
    rw [← Nat.mul_add_div hp, Nat.mul_comm]
    exact Nat.div_le_div_right (by omega)
  have hchunk : ((4 + (ch.frameAct.toNat - 1) / ch.pAct.toNat) * ch.orderAct.toNat + 7) / 8 ≤ 32 := h.chunk
  have := Nat.mul_le_mul_right ch.orderAct.toNat hdiv
  rw [Nat.mul_comm]
  omega

/-- The counters after the accumulation of one sample: neither wraps (R70). -/
theorem RxOk.correlate_counters {ch : Channel} (h : RxOk ch) (he : EngineOk ch) (x : Sample) :
    (correlate x ch).rx.winN.toNat = ch.rx.winN.toNat + 1 ∧
    (correlate x ch).rx.chunkCnt.toNat = ch.rx.chunkCnt.toNat + 1 := by
  have hp := ch.pAct.isLt
  have hw := h.window
  have hf := h.frame
  have hF := he.frameHi
  have hc := h.chunk
  rw [correlate_rx_winN, correlate_rx_chunkCnt]
  exact ⟨toNat_succ_of_lt (by omega), toNat_succ_of_lt (by omega)⟩

/-- A window that one more sample does not fill goes on. -/
theorem RxOk.windowOk_correlate {ch : Channel} (h : RxOk ch) (he : EngineOk ch) (x : Sample)
    (hfill : ch.rx.winN.toNat + 1 ≠ ch.pAct.toNat) : WindowOk (correlate x ch) := by
  obtain ⟨hwin, hcnt⟩ := h.correlate_counters he x
  have hp := ch.pAct.isLt
  have hw := h.window
  have hchunk := h.chunk
  obtain ⟨hdiv, hmod⟩ := succ_div_mod_of_ne he.period (h.position ▸ hfill)
  constructor
  case window => rw [hwin, correlate_pAct]; omega
  case position => rw [hwin, hcnt, correlate_pAct, hmod, h.position]
  case frame => rw [correlate_rx_framePos, correlate_frameAct]; exact h.frame
  case chunk => rw [hcnt, correlate_pAct, correlate_rx_framePos]; omega
  case bits => rw [hcnt, correlate_pAct, correlate_orderAct, correlate_rx_nbits, hdiv]; exact h.bits
  case ref =>
    intro i hi
    rw [correlate_orderAct] at hi
    rw [correlate_rx_ref, if_pos hi, h.ref i hi, hwin, Nat.add_one_mul, BitVec.ofNat_add]
    simp
  case acc =>
    intro i
    have hacc := h.acc i
    have hstep := accStep_natAbs_le x ch.rx.acc[i.val] ch.rx.ref[i.val] (n := ch.rx.winN.toNat) (by omega) hacc
    rw [hwin, correlate_rx_acc]
    split
    · exact hstep
    · exact hacc.trans (Nat.mul_le_mul_right _ (Nat.le_succ _))
  case unused =>
    intro i hi
    rw [correlate_orderAct] at hi
    rw [correlate_rx_acc, correlate_rx_ref, if_neg (Nat.not_lt.mpr hi), if_neg (Nat.not_lt.mpr hi)]
    exact h.unused i hi
  case zeros =>
    intro j hj
    rw [correlate_rx_nbits] at hj
    rw [asmBit_congr (correlate_rx_asm x ch) j]
    exact h.zeros j hj

/-- A window that one more sample fills is decided, and the next one starts. -/
theorem RxOk.windowOk_symbolDecide {ch : Channel} (h : RxOk ch) (he : EngineOk ch) (x : Sample)
    (hfill : ch.rx.winN.toNat + 1 = ch.pAct.toNat) : WindowOk (symbolDecide (correlate x ch)) := by
  obtain ⟨-, hcnt⟩ := h.correlate_counters he x
  have hp := he.period
  have hchunk := h.chunk
  obtain ⟨hdiv, hmod⟩ := succ_div_mod_of_eq hp (h.position ▸ hfill)
  have hnbits : (symbolDecide (correlate x ch)).rx.nbits.toNat = ch.rx.nbits.toNat + ch.orderAct.toNat := by
    have hmax := he.bits_le (n := ch.rx.chunkCnt.toNat + 1) h.frame (by omega)
    rw [hdiv, Nat.mul_add_one, ← h.bits] at hmax
    have ho : (BitVec.ofNat 9 ch.orderAct.toNat).toNat = ch.orderAct.toNat := Nat.mod_eq_of_lt (by omega)
    rw [symbolDecide_rx_nbits, correlate_rx_nbits, correlate_orderAct, BitVec.toNat_add_of_lt] <;> rw [ho]
    omega
  constructor
  case window => rw [symbolDecide_rx_winN, symbolDecide_pAct, correlate_pAct]; exact hp
  case position =>
    rw [symbolDecide_rx_winN, symbolDecide_rx_chunkCnt, hcnt, symbolDecide_pAct, correlate_pAct, hmod]; rfl
  case frame =>
    rw [symbolDecide_rx_framePos, symbolDecide_frameAct, correlate_rx_framePos, correlate_frameAct]; exact h.frame
  case chunk =>
    rw [symbolDecide_rx_chunkCnt, hcnt, symbolDecide_pAct, correlate_pAct, symbolDecide_rx_framePos, correlate_rx_framePos]
    omega
  case bits =>
    rw [hnbits, symbolDecide_rx_chunkCnt, hcnt, symbolDecide_pAct, correlate_pAct, symbolDecide_orderAct,
      correlate_orderAct, hdiv, Nat.mul_add_one, h.bits]
  case ref => intro i _; rw [symbolDecide_rx_ref, symbolDecide_rx_winN]; simp
  case acc => intro i; rw [symbolDecide_rx_acc]; simp
  case unused => exact fun i _ => ⟨symbolDecide_rx_acc _ i, symbolDecide_rx_ref _ i⟩
  case zeros =>
    intro j hj
    rw [hnbits] at hj
    have hle : (correlate x ch).rx.nbits.toNat + (correlate x ch).orderAct.toNat ≤ j := by
      rw [correlate_rx_nbits, correlate_orderAct]; exact hj
    rw [asmBit_symbolDecide_of_le _ hle, asmBit_congr (correlate_rx_asm x ch) j]
    exact h.zeros j (by omega)

/-- The correlator and the window check keep the receive state, but for the sample's place in the frame. -/
theorem RxOk.windowOk_windowCheck {ch : Channel} (h : RxOk ch) (he : EngineOk ch) (x : Sample) :
    WindowOk (windowCheck (correlate x ch)) := by
  obtain ⟨hwin, -⟩ := h.correlate_counters he x
  rcases windowCheck_cases (correlate x ch) with ⟨hne, hc⟩ | ⟨heq, hc⟩ <;> rw [hc]
  · rw [correlate_pAct] at hne
    exact h.windowOk_correlate he x fun hfill => hne (BitVec.eq_of_toNat_eq (hwin.trans hfill))
  · rw [correlate_pAct] at heq
    exact h.windowOk_symbolDecide he x (hwin.symm.trans (congrArg BitVec.toNat heq))

/-- The receive state once FRAME_POS is set to a place at which the chunk is within its bound. -/
theorem WindowOk.rxOk {ch : Channel} (h : WindowOk ch) (he : EngineOk ch) {fp : BitVec 16}
    (hfp : fp.toNat < ch.frameAct.toNat) (hchunk : ch.rx.chunkCnt.toNat ≤ 4 * ch.pAct.toNat - 1 + fp.toNat) :
    RxOk { ch with rx := { ch.rx with framePos := fp } } where
  window := h.window
  position := h.position
  frame := hfp
  chunk := hchunk
  bits := h.bits
  bitsMax := h.bits.trans_le (he.bits_le h.frame h.chunk)
  ref := h.ref
  acc := h.acc
  unused := h.unused
  zeros := fun j hj => (asmBit_congr rfl j).trans (h.zeros j hj)

/-- A flush appends a message of 1 to 32 bytes to a queue with room, or drops it. -/
theorem QueueOk.flush {ch : Channel} (h : QueueOk ch) (hlo : 1 ≤ ch.rx.nbits.toNat) (hhi : ch.rx.nbits.toNat ≤ 256) :
    QueueOk (Machine.flush ch).chan := by
  rcases flush_cases ch with ⟨hroom, hf⟩ | ⟨-, hf⟩ <;> rw [hf]
  · refine ⟨?_, fun m hm => ?_⟩
    · simp only [List.length_append, List.length_singleton]; omega
    · rcases List.mem_append.mp hm with hold | hnew
      · exact h.sizes m hold
      · rw [List.mem_singleton.mp hnew]; exact flushMessage_length hlo hhi
  · exact h.of_rxq_eq rfl

/-- The frame keeps the receive state, and a flush starts a new one. -/
theorem WindowOk.frameAdvance {ch : Channel} (h : WindowOk ch) (he : EngineOk ch) (hq : QueueOk ch) :
    RxOk (Machine.frameAdvance ch).chan ∧ QueueOk (Machine.frameAdvance ch).chan := by
  have hframe := h.frame
  have hchunk := h.chunk
  have hframeHi := he.frameHi
  have hsucc : (ch.rx.framePos + 1).toNat = ch.rx.framePos.toNat + 1 := toNat_succ_of_lt (by omega)
  rcases frameAdvance_cases ch with ⟨hne, hf⟩ | ⟨-, hshort, hf⟩ | ⟨-, hfull, hf⟩ <;> rw [hf]
  · have hlt : ch.rx.framePos.toNat + 1 ≠ ch.frameAct.toNat := fun e => hne (BitVec.eq_of_toNat_eq (hsucc.trans e))
    exact ⟨h.rxOk he (by omega) (by omega), hq.of_rxq_eq rfl⟩
  · exact ⟨h.rxOk he he.frameLo (Nat.le_sub_one_of_lt hshort), hq.of_rxq_eq rfl⟩
  · have hlo : 1 ≤ ch.rx.nbits.toNat := by
      rw [h.bits]
      exact Nat.mul_pos he.orderLo (Nat.div_pos (by omega) he.period)
    have hhi : ch.rx.nbits.toNat ≤ 256 := h.bits.trans_le (he.bits_le h.frame h.chunk)
    refine ⟨?_, QueueOk.flush (hq.of_rxq_eq rfl) hlo hhi⟩
    rcases flush_cases { ch with rx := { ch.rx with framePos := 0 } } with ⟨-, hfl⟩ | ⟨-, hfl⟩ <;> rw [hfl] <;>
      exact .of_clear (he.of_sameEngine ⟨rfl, rfl, rfl, rfl⟩) rfl

theorem ChannelOk.rxPart {ch : Channel} (h : ChannelOk ch) (x : Sample) : ChannelOk (Machine.rxPart x ch).chan := by
  have hframe := rxPart_frame x ch
  have hsame : SameEngine ch (Machine.rxPart x ch).chan := by
    constructor <;> rw [hframe]
  rcases rxPart_cases x ch with ⟨-, hp⟩ | ⟨hj, hp⟩
  · rw [hp]; exact h
  · have he := h.engine hj
    have hw : SameEngine ch (windowCheck (correlate x ch)) := by constructor <;> simp
    obtain ⟨hrx, hqueue⟩ := ((h.rx hj).windowOk_windowCheck he x).frameAdvance (he.of_sameEngine hw)
      (h.queue.of_rxq_eq (by simp))
    rw [hp] at hsame hframe ⊢
    exact
      { queue := hqueue
        tx := h.tx.of_sameEngine hsame (by rw [hframe]) (by rw [hframe]) (by rw [hframe]) (by rw [hframe]) (by rw [hframe])
        engine := fun _ => he.of_sameEngine hsame
        rx := fun _ => hrx }

/-! ### Every writer of a channel -/

/-- Whatever an event makes of a channel meets the invariant. -/
theorem ChannelOk.of_channelChange {e : Event} {s : State} {c : Chan} {ch : Channel} (h : ChannelOk (s.chan c))
    (hc : ChannelChange e s c ch) : ChannelOk ch := by
  cases hc with
  | same => exact h
  | reset _ => exact .reset
  | regWrite v r => exact h.writeChanReg v r
  | stageWrite j v => exact h.writeStage j v
  | join _ hj => exact .joinChannel hj
  | leave => exact .leaveChannel _
  | send hj hl => exact h.startMessage hj hl
  | rxReset => exact h.rxClear
  | rxqPop m rest hq => exact h.dequeue hq
  | transmit _ => exact h.txPart _
  | transmitLoopback _ x => exact (h.txPart _).rxPart x
  | receive x => exact h.rxPart x

end Sys2Proof.Safety
end

section
/-! The channel invariant and the phase bank: O36, O26. -/

namespace Sys2Proof.Machine

open Sys2Proof.Safety

/-- Settles O36: every writer of a channel keeps the invariant of that channel. -/
theorem stepKeepsChannelInvariant : Obligations.StepKeepsChannelInvariant := by
  unfold Obligations.StepKeepsChannelInvariant
  refine ⟨fun c => ?_, fun s t hs ht c => ?_, fun s c hs hj => ?_⟩
  · rw [chan_reset]; exact .reset
  · refine ChannelOk.of_channelChange ?_ (runEvent_channelChange ht c)
    rw [chan_takeEvent]
    exact hs c
  · have he := (hs c).engine hj
    have hrx := (hs c).rx hj
    exact ⟨fun i hi => hrx.ref_toNat i hi, fun i => hrx.acc_bounds i, hrx.bits, hrx.chunkCnt_le, hrx.chunkCnt_lt he,
      hrx.bitsMax⟩

/-- Of all that can happen to a channel, only the NCO step, JOIN and reset write its phase bank (R54). -/
theorem ChannelChange.phase_writers {e : Event} {s : State} {c : Chan} {ch : Channel}
    (h : ChannelChange e s c ch) :
    ch.phase = (s.chan c).phase ∨ (e = .tx ∧ ch.phase = (s.txSlot c).chan.phase) ∨
    (runsCommand e (.join c.val) ∧ ch.phase = Vector.replicate 16 0) ∨
    (e = .rstAssert ∧ ch.phase = Vector.replicate 16 0) := by
  cases h with
  | transmit he => exact .inr (.inl ⟨he, rfl⟩)
  | transmitLoopback he x => exact .inr (.inl ⟨he, by rw [rxPart_frame]⟩)
  | join hc _ => exact .inr (.inr (.inl ⟨hc, rfl⟩))
  | reset he => exact .inr (.inr (.inr ⟨he, rfl⟩))
  | regWrite v r => cases r <;> exact .inl rfl
  | receive x => exact .inl (by rw [rxPart_frame])
  | _ => exact .inl rfl

/-- Settles O26, by the writers of a channel. -/
theorem phaseBankWriters : Obligations.PhaseBankWriters := by
  unfold Obligations.PhaseBankWriters
  refine ⟨fun e s t c i h hne => ?_, fun s c hj => ?_, fun c i => ?_⟩
  · rcases (runEvent_channelChange h c).phase_writers with hp | ⟨he, hp⟩ | ⟨hc, hp⟩ | ⟨he, hp⟩
    · exact absurd (by rw [hp]) hne
    · have hi : (t.chan c).phase[i.val] = (s.txSlot c).chan.phase[i.val] := by rw [hp]
      rw [State.txSlot, txPart_phase_getElem] at hi
      split at hi
      · next hact =>
        obtain ⟨hplay, hlane⟩ := hact
        obtain ⟨hj, hb⟩ : (s.chan c).joined = true ∧ (s.chan c).txBusy = true := by simpa [Channel.playing] using hplay
        exact .inl ⟨he, hj, hb, hlane, hi⟩
      · exact absurd hi hne
    · exact .inr (.inl ⟨hc, by simp [hp]⟩)
    · exact .inr (.inr ⟨he, by simp [hp]⟩)
  · refine ⟨_, rfl, fun i => ?_⟩
    rcases joinCore_cases c s with ⟨-, hb⟩ | ⟨hno, -⟩
    · rw [channelCommand_val, chan_complete, hb, chan_setChan_self]; simp [joinChannel]
    · exact absurd ((joinCheck_eq_ok_iff s c).mpr hj) hno
  · rw [chan_reset]; simp [Channel.reset]

end Sys2Proof.Machine
end

section
/-! The sample counters: O57. -/

namespace Sys2Proof.Machine

open Sys2Proof.Safety

/-- A host access leaves both sample counters (R40). -/
theorem hostStep_sampleCounters {op : HostOp} {s t : State} (h : hostStep op s = .next t) :
    t.sampleCnt = s.sampleCnt ∧ t.rxSampleCnt = s.rxSampleCnt := by
  rcases hostStep_cases op s with ⟨_, -, -, hs⟩ | ⟨off, v, -, -, hs⟩ | ⟨r, hs⟩
  · cases hs.symm.trans h
    exact ⟨rfl, rfl⟩
  · have hw := hs.symm.trans h
    generalize regAt (offsetBits off) = r at hw
    cases r with
    | cmd =>
      rcases commandWrite_cases v s with ⟨i, -, hc⟩ | ⟨_, -, hc⟩
      · have hcmd := exec_commandWrites (hc.symm.trans hw)
        exact ⟨hcmd.sampleCnt_eq, hcmd.rxSampleCnt_eq⟩
      · cases hc.symm.trans hw
        exact ⟨rfl, rfl⟩
    | _ => cases hw; exact ⟨rfl, rfl⟩
  · cases hs.symm.trans h

/-- No agent's step but the sample steps moves a sample counter, and of the changes of the pin only a reset does (R40). -/
theorem agentStep_sampleCounters {e : Event} {s t : State} (h : agentStep e s = .next t) (htx : e ≠ .tx) (hrx : e ≠ .rx)
    (hreset : e ≠ .rstAssert) : t.sampleCnt = s.sampleCnt ∧ t.rxSampleCnt = s.rxSampleCnt := by
  cases e with
  | host op => exact hostStep_sampleCounters h
  | tx => exact absurd rfl htx
  | rx => exact absurd rfl hrx
  | dac => cases h; rw [State.dacStep]; split <;> exact ⟨rfl, rfl⟩
  | adc x => cases h; rw [State.adcStep]; split_ifs <;> exact ⟨rfl, rfl⟩
  | syncW f v => cases h; cases f <;> exact ⟨rfl, rfl⟩
  | syncR f v => cases h; cases f <;> exact ⟨rfl, rfl⟩
  | syncEnDac => cases h; exact ⟨rfl, rfl⟩
  | syncEnAdc => cases h; exact ⟨rfl, rfl⟩
  | syncUnd => cases h; rw [State.syncUnd]; split <;> exact ⟨rfl, rfl⟩
  | syncOvf => cases h; rw [State.syncOvf]; split <;> exact ⟨rfl, rfl⟩
  | rstAssert => exact absurd rfl hreset
  | rstRelease => cases h; exact ⟨rfl, rfl⟩
  | rstOneDomain d => cases h

/-- Settles O57: the two sample steps count, and every other event leaves the counters. -/
theorem sampleCountersCountSteps : Obligations.SampleCountersCountSteps := by
  unfold Obligations.SampleCountersCountSteps
  refine ⟨rfl, rfl, fun s => ⟨rfl, rfl⟩, fun e s t h hreset => ?_⟩
  rcases runEvent_next_cases h with ⟨hr, -, rfl⟩ | ⟨hrun, hs⟩
  · simp [hr]
  by_cases htx : e = .tx
  · subst htx
    have hr : s.rst = false := hrun.resolve_right (by decide)
    cases hs
    rcases txStep_cases s with ⟨he, hx⟩ | ⟨he, hl, hx⟩ | ⟨he, hl, hx⟩ <;> rw [hx]
    · simp [he]
    · simp [hr, he, hl]
    · simp [hr, he, hl]
  by_cases hrx : e = .rx
  · subst hrx
    have hr : s.rst = false := hrun.resolve_right (by decide)
    cases hs
    rcases rxStep_cases s with ⟨he, hx⟩ | ⟨he, hx⟩ <;> rw [hx]
    · simp [he]
    · simp [hr, he]
  · obtain ⟨hcnt, hrxCnt⟩ := agentStep_sampleCounters hs htx hrx hreset
    simp [htx, hrx, hcnt, hrxCnt]

end Sys2Proof.Machine
end

section
/-! The registers that are computed on each read, and rx_clear: O50, O49, O32. -/

namespace Sys2Proof.Machine

open Sys2Proof.Safety

/-! ### Channel registers -/

theorem readChanReg_reset (r : ChanReg) : readChanReg Channel.reset r = 0 := by
  cases r <;> decide

/-- A write to a read-only register of a channel changes nothing (R106). -/
theorem runEvent_write_chb_readOnly (s : State) (c : Chan) (k : Fin 16) (v : Word) (hr : s.rst = false)
    (hro : readOnlyReg (.chan c (chanReg k.val)) = true) :
    runEvent (.host (.write (chb c + 4 * k.val) v)) s = .next s := by
  rw [runEvent_runs _ _ (.inl hr), agentStep, hostStep, if_pos (inWindow_chb c k), regAt_chb,
    writeReg_readOnly s v _ hro]

/-- The fields of CH_STATUS (R45); the queue's two fields hold their values because the queue is bounded (R72). -/
theorem chStatusValue_toNat {ch : Channel} (h : QueueOk ch) :
    (chStatusValue ch).toNat =
      ch.joined.toNat + 2 * ch.txBusy.toNat + 4 * ch.nyqWarn.toNat + 8 * ch.stg.toNat + 16 * ch.rxq.length +
        256 * (ch.rxq.headD []).length := by
  have hdepth := h.depth
  have hhead : (ch.rxq.headD []).length ≤ 32 := by
    cases hq : ch.rxq with
    | nil => simp
    | cons m rest => exact (h.sizes m (hq ▸ List.mem_cons_self)).2
  simp only [chStatusValue, toNat_append_eq, BitVec.toNat_ofNat, BitVec.toNat_ofBool]
  omega

/-- Settles O50, register by register through the address map. -/
theorem channelRegistersRead : Obligations.ChannelRegistersRead := by
  unfold Obligations.ChannelRegistersRead
  have hoffsets : ∀ c : Chan, ∀ off ∈ [(0x18 : Int), 0x1C, 0x20, 0x28, 0x2C, 0x30, 0x34, 0x38, 0x3C],
      ∃ k : Fin 16, off = 4 * k.val ∧ readOnlyReg (.chan c (chanReg k.val)) = true := by decide
  intro s c hq ch
  refine ⟨?_, ?_, ?_, ?_, ?_, ?_, ?_, ?_, ?_, fun off hoff => ?_⟩
  · exact (congrArg BitVec.toNat (readAt_chb s c 6)).trans (chStatusValue_toNat hq)
  · have hread : readAt s (chb c + 0x1C) = 0#13 ++ ch.orderAct ++ ch.pAct := readAt_chb s c 7
    rw [hread, toNat_append_eq, toNat_append_eq]
    simp
  · have hread : readAt s (chb c + 0x20) = ch.rxqDrops.setWidth 32 := readAt_chb s c 8
    rw [hread, BitVec.toNat_setWidth_of_le (by decide)]
  · have hread : readAt s (chb c + 0x28) = ch.phase[ch.phaseSel.toFin.val] := readAt_chb s c 10
    rw [hread, Vector.getElem?_eq_getElem ch.phaseSel.isLt]
    rfl
  · have hread : readAt s (chb c + 0x2C) = ch.ftw[ch.phaseSel.toFin.val] := readAt_chb s c 11
    rw [hread, Vector.getElem?_eq_getElem ch.phaseSel.isLt]
    rfl
  · have hread : readAt s (chb c + 0x30) = ch.txSamp ++ 0#4 ++ ch.txSym := readAt_chb s c 12
    rw [hread, toNat_append_eq, toNat_append_eq, BitVec.toNat_ofNat]
    omega
  · have hread : readAt s (chb c + 0x34) = 0#7 ++ ch.rx.nbits ++ ch.rx.winN := readAt_chb s c 13
    rw [hread, toNat_append_eq, toNat_append_eq]
    simp
  · have hread : readAt s (chb c + 0x38) = ch.rx.chunkCnt.setWidth 32 := readAt_chb s c 14
    rw [hread, BitVec.toNat_setWidth_of_le (by decide)]
  · have hread : readAt s (chb c + 0x3C) = ch.rx.framePos.setWidth 32 := readAt_chb s c 15
    rw [hread, BitVec.toNat_setWidth_of_le (by decide)]
  · obtain ⟨k, rfl, hro⟩ := hoffsets c off hoff
    exact ⟨by rw [readAt_chb, chan_reset, readChanReg_reset], fun v hr => runEvent_write_chb_readOnly s c k v hr hro⟩

/-! ### STATUS -/

/-- A flag of STATUS is its channel's. -/
theorem chanFlags_getLsbD (s : State) (p : Channel → Bool) (c : Chan) : (chanFlags s p).getLsbD c.val = p (s.chan c) := by
  match c with
  | 0 | 1 | 2 | 3 => simp only [chanFlags, BitVec.getLsbD_append]; simp

/-- The fields of STATUS as one number (R34). -/
theorem statusValue_toNat (s : State) :
    (statusValue s).toNat = 2 ^ 20 * (chanFlags s (·.txBusy)).toNat + 2 ^ 16 * (chanFlags s (·.joined)).toNat +
      2 ^ 8 * (s.rxf.viewW - s.rxf.r).toNat + (s.txf.w - s.txf.viewR).toNat := by
  simp only [statusValue, toNat_append_eq, BitVec.toNat_ofNat]
  omega

/-- Settles O49, field by field. -/
theorem statusReadsViews : Obligations.StatusReadsViews := by
  unfold Obligations.StatusReadsViews
  intro s
  have hread : readAt s 0x00C = statusValue s := rfl
  have hval := statusValue_toNat s
  rw [hread]
  refine ⟨?_, ?_, fun c => ?_, fun c => ?_, ?_, ?_, ?_, ?_⟩
  · omega
  · omega
  · have hidx : 16 + c.val - 7 - 1 - 7 - 1 = c.val := by omega
    simp (disch := omega) only [statusValue, BitVec.getLsbD_append, if_neg, if_pos, hidx, chanFlags_getLsbD]
  · have hidx : 20 + c.val - 7 - 1 - 7 - 1 - 4 = c.val := by omega
    simp (disch := omega) only [statusValue, BitVec.getLsbD_append, if_neg, if_pos, hidx, chanFlags_getLsbD]
  · simp only [statusValue, BitVec.getLsbD_append]; simp
  · simp only [statusValue, BitVec.getLsbD_append]; simp
  · omega
  · decide

/-! ### rx_clear -/

/-- Settles O32: rx_clear replaces the receive state by the cleared one, whose entries are all 0. -/
theorem rxClearClearsReceiveState : Obligations.RxClearClearsReceiveState := by
  unfold Obligations.RxClearClearsReceiveState
  intro ch
  simp [Channel.rxClear, RxState.clear]

end Sys2Proof.Machine
end

section
/-! SUPPORT. The two byte windows: where each of their words lies in the register space, what a read of it returns byte by
byte, and what a write of it stores (spec/20_memory.md R108, R120, R121). -/

namespace Sys2Proof.Machine

open Sys2Proof.Safety

/-! ### Bytes of a word (R108) -/

/-- Byte `i` of a word put together from the bytes `k .. k+3` of a byte string is its byte `k + i`. -/
theorem extractLsb'_wordOf (f : Nat → Byte) (k : Nat) (i : Fin 4) :
    (wordOf (f (k + 3)) (f (k + 2)) (f (k + 1)) (f k)).extractLsb' (8 * i.val) 8 = f (k + i.val) := by
  refine BitVec.eq_of_getLsbD_eq fun b hb => ?_
  match i with
  | 0 | 1 | 2 | 3 =>
    simp only [wordOf, BitVec.getLsbD_extractLsb', BitVec.getLsbD_append]
    simp (disch := omega) [hb, if_neg, Nat.sub_sub]

/-- A word is its four bytes. -/
theorem word_ext {v w : Word} (h : ∀ i : Fin 4, v.extractLsb' (8 * i.val) 8 = w.extractLsb' (8 * i.val) 8) : v = w := by
  refine BitVec.eq_of_getLsbD_eq fun b hb => ?_
  have hbit := congrArg (·.getLsbD (b % 8)) (h ⟨b / 8, by omega⟩)
  have hlt : b % 8 < 8 := Nat.mod_lt _ (by decide)
  simpa [BitVec.getLsbD_extractLsb', hlt, Nat.div_add_mod] using hbit

/-! ### The windows in the register space (R101) -/

/-- With rst released, a write in the window acts on what its offset names (R103). -/
theorem runEvent_write {s : State} (hr : s.rst = false) {off : Int} (h0 : 0 ≤ off) (h1 : off < 4096) (v : Word) :
    runEvent (.host (.write off v)) s = writeReg s v (regAt (offsetBits off)) := by
  rw [runEvent_runs _ _ (.inl hr), agentStep, hostStep, inWindow, if_pos (decide_eq_true ⟨h0, h1⟩)]

theorem regAt_stageWin : ∀ (c : Chan) (j : Fin 64),
    regAt (offsetBits (0x800 + 0x100 * (c.val : Int) + 4 * (j.val : Int))) = .stageWin c j.val := by
  decide

theorem readAt_stageWin (s : State) (c : Chan) (j : Fin 64) :
    readAt s (0x800 + 0x100 * (c.val : Int) + 4 * (j.val : Int)) = stageWord s c j.val := by
  rw [readAt, regAt_stageWin, readReg]

theorem runEvent_write_stageWin {s : State} (hr : s.rst = false) (c : Chan) (j : Fin 64) (v : Word) :
    runEvent (.host (.write (0x800 + 0x100 * (c.val : Int) + 4 * (j.val : Int)) v)) s =
      .next (s.setChan c (writeStage (s.chan c) j.val v)) := by
  rw [runEvent_write hr (by omega) (by omega), regAt_stageWin, writeReg]

theorem regAt_headWin : ∀ (c : Chan) (j : Fin 8),
    regAt (offsetBits (0x400 + 0x20 * (c.val : Int) + 4 * (j.val : Int))) = .headWin c j.val := by
  decide

theorem readAt_headWin (s : State) (c : Chan) (j : Fin 8) :
    readAt s (0x400 + 0x20 * (c.val : Int) + 4 * (j.val : Int)) = headWord (s.chan c) j.val := by
  rw [readAt, regAt_headWin, readReg]

theorem runEvent_write_headWin {s : State} (hr : s.rst = false) (c : Chan) (j : Fin 8) (v : Word) :
    runEvent (.host (.write (0x400 + 0x20 * (c.val : Int) + 4 * (j.val : Int)) v)) s = .next s := by
  rw [runEvent_write hr (by omega) (by omega), regAt_headWin, writeReg]

/-! ### The staging window (R120) -/

theorem stageWord_extractLsb' (s : State) (c : Chan) (j : Nat) (i : Fin 4) :
    (stageWord s c j).extractLsb' (8 * i.val) 8 = s.txb c (s.chan c).stg (BitVec.ofNat 8 (4 * j + i.val)) :=
  extractLsb'_wordOf (stageByte s c) (4 * j) i

/-- A transmit bank read back after one byte of it was written. -/
theorem txbRead_write (epoch c : Nat) (m : Memory) (b b' : Bool) (k k' v : Byte) :
    txbRead epoch c (txbWrite m b k v) b' k' = if b' = b ∧ k' = k then v else txbRead epoch c m b' k' := by
  split
  · next h =>
    obtain ⟨rfl, rfl⟩ := h
    exact txbRead_write_self ..
  · next h => exact txbRead_write_of_ne _ _ _ (not_and_or.mp h) v

/-- The transmit banks of a channel read back after word `j` of its staging bank was written. -/
theorem txbRead_writeStage (epoch c : Nat) (ch : Channel) {j : Nat} (hj : j < 64) (v : Word) (bank : Bool) (k : Byte) :
    txbRead epoch c (writeStage ch j v).txb bank k =
      if bank = ch.stg ∧ k.toNat / 4 = j then byteOf v (k.toNat % 4) else txbRead epoch c ch.txb bank k := by
  have hkey : ∀ t < 4, (k = BitVec.ofNat 8 (4 * j + t) ↔ k.toNat / 4 = j ∧ k.toNat % 4 = t) := fun t ht => by
    rw [BitVec.toNat_eq, BitVec.toNat_ofNat]
    omega
  have hmod : k.toNat % 4 < 4 := Nat.mod_lt _ (by decide)
  simp only [writeStage, List.foldl_cons, List.foldl_nil, txbRead_write, hkey 0, hkey 1, hkey 2, hkey 3, Nat.reduceLT]
  generalize k.toNat % 4 = r at hmod
  interval_cases r <;> simp

/-- Every byte of every bank after a write of word `j` of channel `c`'s staging window. -/
theorem txb_setChan_writeStage (s : State) (c : Chan) {j : Nat} (hj : j < 64) (v : Word) (d : Chan) (bank : Bool)
    (k : Byte) :
    (s.setChan c (writeStage (s.chan c) j v)).txb d bank k =
      if d = c ∧ bank = (s.chan c).stg ∧ k.toNat / 4 = j then byteOf v (k.toNat % 4) else s.txb d bank k := by
  rw [State.txb, State.txb, setChan_epoch]
  by_cases hd : d = c
  · subst hd
    simp only [chan_setChan_self, txbRead_writeStage _ _ _ hj, true_and]
  · rw [chan_setChan_of_ne s hd, if_neg fun h => hd h.1]

/-! ### The head window (R121) -/

theorem headWord_of_empty {ch : Channel} (h : ch.rxq = []) (j : Nat) : headWord ch j = 0 := by
  simp [headWord, headByte, h, wordOf]

theorem headWord_extractLsb' {ch : Channel} {m : List Byte} {rest : List (List Byte)} (h : ch.rxq = m :: rest) (j : Nat)
    (i : Fin 4) : (headWord ch j).extractLsb' (8 * i.val) 8 = m.getD (4 * j + i.val) 0 := by
  refine (extractLsb'_wordOf (headByte ch) (4 * j) i).trans ?_
  rw [headByte, h, List.headD_cons]

end Sys2Proof.Machine
end

section
/-! SUPPORT. The inbound queue under every event: only its named writers take from its head, and all else appends at its
tail (spec/20_memory.md R121, spec/42_correlator_rx.md R323). -/

namespace Sys2Proof.Machine

open Sys2Proof.Safety

/-! ### Sample steps -/

/-- A received sample appends to the queue, or leaves it. -/
theorem rxq_prefix_rxPart (x : Sample) (ch : Channel) : ch.rxq <+: (rxPart x ch).chan.rxq := by
  have hcheck : (windowCheck (correlate x ch)).rxq = ch.rxq := by simp
  rcases rxPart_cases x ch with ⟨-, hp⟩ | ⟨-, hp⟩ <;> rw [hp]
  rw [correlatorStep, ← hcheck]
  generalize windowCheck (correlate x ch) = cw
  rcases frameAdvance_cases cw with ⟨-, hf⟩ | ⟨-, -, hf⟩ | ⟨-, -, hf⟩ <;> rw [hf]
  rcases flush_cases { cw with rx := { cw.rx with framePos := 0 } } with ⟨-, hfl⟩ | ⟨-, hfl⟩ <;> rw [hfl]
  exact List.prefix_append _ _

/-- A transmitted sample leaves the queue. -/
theorem txSlot_rxq (s : State) (c : Chan) : (s.txSlot c).chan.rxq = (s.chan c).rxq := by
  rw [State.txSlot]
  rcases txPart_cases (s.activeByte c) (s.chan c) with ⟨-, hp⟩ | ⟨-, hp⟩ <;> rw [hp]
  simp [ncoStep]

theorem rxq_prefix_txStep (s : State) (c : Chan) : (s.chan c).rxq <+: (s.txStep.chan c).rxq := by
  rcases txStep_cases s with ⟨-, hs⟩ | ⟨-, -, hs⟩ | ⟨-, -, hs⟩ <;> rw [hs]
  · rw [chan_txProduce, txSlot_rxq]
  · rw [chan_rxFeed, State.rxSlot, chan_txProduce, ← txSlot_rxq]
    exact rxq_prefix_rxPart _ _

theorem rxq_prefix_rxStep (s : State) (c : Chan) : (s.chan c).rxq <+: (s.rxStep.chan c).rxq := by
  rcases rxStep_cases s with ⟨-, hs⟩ | ⟨-, hs⟩ <;> rw [hs]
  rw [chan_rxFeed]
  exact rxq_prefix_rxPart _ _

/-! ### Commands and register writes -/

/-- Replacing a channel by one with the same queue leaves every queue. -/
theorem rxq_setChan {s : State} {c : Chan} {ch : Channel} (h : ch.rxq = (s.chan c).rxq) (d : Chan) :
    ((s.setChan c ch).chan d).rxq = (s.chan d).rxq := by
  by_cases hd : d = c
  · subst hd; rw [chan_setChan_self, h]
  · rw [chan_setChan_of_ne s hd]

/-- A channel command leaves channel `d`'s queue where its body does. -/
theorem rxq_channelCommand (op : Byte) (ch : Nat) {s : State} {body : Chan → State → ResultCode × State} {d : Chan}
    (h : ∀ c : Chan, c.val = ch → ((body c s).2.chan d).rxq = (s.chan d).rxq) :
    ((channelCommand op ch s body).chan d).rxq = (s.chan d).rxq := by
  rcases chanOperand_cases ch with ⟨hch, -⟩ | ⟨c, rfl, -⟩
  · rw [channelCommand_bad op hch, chan_complete]
  · rw [channelCommand_val, chan_complete, h c rfl]

/-- Of the commands only RXQ_POP, JOIN and LEAVE of a channel write its queue. -/
theorem exec_rxq {i : Instr} {s t : State} (h : exec i s = .next t) {d : Chan} (hpop : i ≠ .rxqPop d.val)
    (hjoin : i ≠ .join d.val) (hleave : i ≠ .leave d.val) : (t.chan d).rxq = (s.chan d).rxq := by
  cases i with
  | nop => cases h; rfl
  | join ch =>
    cases h
    refine rxq_channelCommand _ _ fun c hc => ?_
    have hd : d ≠ c := fun e => hjoin (by rw [e, hc])
    rcases joinCore_cases c s with ⟨-, hb⟩ | ⟨-, hb⟩ <;> rw [hb]
    rw [chan_setChan_of_ne s hd]
  | leave ch =>
    cases h
    refine rxq_channelCommand _ _ fun c hc => ?_
    have hd : d ≠ c := fun e => hleave (by rw [e, hc])
    rcases leaveCore_cases c s with ⟨-, hb⟩ | ⟨-, hb⟩ <;> rw [hb]
    rw [chan_setChan_of_ne s hd]
  | send ch =>
    cases h
    refine rxq_channelCommand _ _ fun c _ => ?_
    rcases sendJoined_cases c s with ⟨-, hb⟩ | ⟨-, hb⟩ <;> rw [hb]
    rcases sendCore_cases c s with ⟨-, hs⟩ | ⟨-, hs⟩ <;> rw [hs]
    rw [chan_raise, rxq_setChan (startMessage_rxq _)]
  | broadcast =>
    cases h
    rw [chan_complete, broadcastAll]
    rcases chan_foldl_broadcastTurn allChans (by decide) (.ok, s) d with hb | ⟨-, -, hb⟩ <;> rw [hb]
    rfl
  | rxReset ch =>
    cases h
    refine rxq_channelCommand _ _ fun c _ => ?_
    rcases rxResetCore_cases c s with ⟨-, hb⟩ | ⟨-, hb⟩ <;> rw [hb]
    rw [rxq_setChan (rxClear_rxq _)]
  | rxqPop ch =>
    cases h
    refine rxq_channelCommand _ _ fun c hc => ?_
    have hd : d ≠ c := fun e => hpop (by rw [e, hc])
    rcases rxqPopCore_cases c s with ⟨-, _, _, -, hb⟩ | ⟨-, -, hb⟩ | ⟨-, hb⟩ <;> rw [hb]
    rw [chan_setChan_of_ne s hd]
  | rxfDiscard => cases h; rfl

/-- A host access that runs none of RXQ_POP, JOIN and LEAVE of a channel leaves its queue. -/
theorem hostStep_rxq {op : HostOp} {s t : State} (h : hostStep op s = .next t) {d : Chan}
    (hpop : ¬runsCommand (.host op) (.rxqPop d.val)) (hjoin : ¬runsCommand (.host op) (.join d.val))
    (hleave : ¬runsCommand (.host op) (.leave d.val)) : (t.chan d).rxq = (s.chan d).rxq := by
  rcases hostStep_cases op s with ⟨_, -, -, hs⟩ | ⟨off, v, rfl, hw, hs⟩ | ⟨_, hs⟩
  · cases hs.symm.trans h
    rfl
  · have hwrite := hs.symm.trans h
    generalize hr : regAt (offsetBits off) = r at hwrite
    cases r with
    | cmd =>
      rcases commandWrite_cases v s with ⟨i, hi, hc⟩ | ⟨_, -, hc⟩
      · have hruns : runsCommand (.host (.write off v)) i := ⟨v, cmdWritten_of_regAt v hw hr, hi⟩
        exact exec_rxq (hc.symm.trans hwrite) (fun e => hpop (e ▸ hruns)) (fun e => hjoin (e ▸ hruns))
          (fun e => hleave (e ▸ hruns))
      · cases hc.symm.trans hwrite
        rfl
    | chan c r => cases hwrite; exact rxq_setChan (by cases r <;> rfl) d
    | stageWin c j => cases hwrite; exact rxq_setChan (writeStage_rxq _ j v) d
    | _ => cases hwrite; rfl
  · cases hs.symm.trans h

/-! ### Every event -/

/-- An event other than reset, RXQ_POP, JOIN and LEAVE of a channel only appends to its queue. -/
theorem agentStep_rxq_prefix {e : Event} {s t : State} (h : agentStep e s = .next t) (hreset : e ≠ .rstAssert) {c : Chan}
    (hpop : ¬runsCommand e (.rxqPop c.val)) (hjoin : ¬runsCommand e (.join c.val))
    (hleave : ¬runsCommand e (.leave c.val)) : (s.chan c).rxq <+: (t.chan c).rxq := by
  cases e with
  | host op => rw [hostStep_rxq h hpop hjoin hleave]
  | tx => cases h; exact rxq_prefix_txStep s c
  | rx => cases h; exact rxq_prefix_rxStep s c
  | dac => cases h; rw [State.dacStep]; split <;> exact List.prefix_rfl
  | adc x => cases h; rw [State.adcStep]; split_ifs <;> exact List.prefix_rfl
  | syncW f v => cases h; rw [State.syncWStep, chan_setFifo]
  | syncR f v => cases h; rw [State.syncRStep, chan_setFifo]
  | syncEnDac => cases h; exact List.prefix_rfl
  | syncEnAdc => cases h; exact List.prefix_rfl
  | syncUnd => cases h; rw [State.syncUnd]; split <;> exact List.prefix_rfl
  | syncOvf => cases h; rw [State.syncOvf]; split <;> exact List.prefix_rfl
  | rstAssert => exact absurd rfl hreset
  | rstRelease => cases h; exact List.prefix_rfl
  | rstOneDomain d => cases h

end Sys2Proof.Machine
end

section
/-! The byte windows: O51, O52. -/

namespace Sys2Proof.Machine

open Sys2Proof.Safety

/-- Settles O51: a write of the window stores its four bytes, and the read-back follows byte by byte. -/
theorem stagingWindowWrites : Obligations.StagingWindowWrites := by
  unfold Obligations.StagingWindowWrites
  intro s c j v hr off
  have hread : ∀ u : State, readAt u off = stageWord u c j.val := fun u => readAt_stageWin u c j
  have hbyte : ∀ i : Fin 4, (BitVec.ofNat 8 (4 * j.val + i.val)).toNat = 4 * j.val + i.val := fun i =>
    Nat.mod_eq_of_lt (by omega)
  have hstored : ∀ i : Fin 4, (s.setChan c (writeStage (s.chan c) j.val v)).txb c (s.chan c).stg
      (BitVec.ofNat 8 (4 * j.val + i.val)) = v.extractLsb' (8 * i.val) 8 := fun i => by
    rw [txb_setChan_writeStage s c j.isLt, hbyte, if_pos ⟨rfl, rfl, by omega⟩, byteOf]
    congr 2
    omega
  refine ⟨fun i => by rw [hread, stageWord_extractLsb'], _, runEvent_write_stageWin hr c j v, hstored,
    fun d bank k hne => ?_, ?_, ?_⟩
  · rw [txb_setChan_writeStage s c j.isLt, if_neg (by tauto)]
  · rw [chan_setChan_self]
    rfl
  · refine word_ext fun i => ?_
    rw [hread, stageWord_extractLsb', chan_setChan_self, writeStage_stg, hstored]

/-- Settles O52: the window is read byte by byte, and what only appends at the tail keeps the head. -/
theorem headWindowShowsHeadMessage : Obligations.HeadWindowShowsHeadMessage := by
  unfold Obligations.HeadWindowShowsHeadMessage
  refine ⟨?_, fun e s t c h hreset hpop hjoin hleave hq => ?_⟩
  · intro s c j v hr off
    have hread : readAt s off = headWord (s.chan c) j.val := readAt_headWin s c j
    refine ⟨fun hempty => hread.trans (headWord_of_empty hempty j), fun m rest hm i => ?_,
      runEvent_write_headWin hr c j v⟩
    rw [hread, headWord_extractLsb' hm]
    split
    · rfl
    · next hlen => exact List.getD_eq_default _ _ (not_lt.mp hlen)
  · rcases runEvent_next_cases h with ⟨-, -, rfl⟩ | ⟨-, hs⟩
    · rfl
    · obtain ⟨new, hnew⟩ := agentStep_rxq_prefix hs hreset hpop hjoin hleave
      rw [← hnew, List.head?_append_of_ne_nil _ hq]

end Sys2Proof.Machine
end

section
/-! SUPPORT. Command words: what the decoder reads from the fields of a word, and what a command that fails reports
(spec/30_encoding.md R150 to R153, spec/40_commands.md R200). -/

namespace Sys2Proof

/-! ### The fields of a word (R150) -/

theorem opField_toNat (w : Word) : (opField w).toNat = w.toNat % 256 := by
  simp [opField, BitVec.extractLsb'_toNat]

theorem chField_toNat (w : Word) : (chField w).toNat = w.toNat / 256 % 16 := by
  simp [chField, BitVec.extractLsb'_toNat, Nat.shiftRight_eq_div_pow]

theorem rsvField_toNat (w : Word) : (rsvField w).toNat = w.toNat / 4096 := by
  have hw := w.isLt
  simp only [rsvField, BitVec.extractLsb'_toNat, Nat.shiftRight_eq_div_pow]
  omega

/-- A word is its three fields. -/
theorem fields_append (w : Word) : rsvField w ++ chField w ++ opField w = w := by
  refine BitVec.eq_of_toNat_eq ?_
  rw [Machine.toNat_append_eq, Machine.toNat_append_eq, rsvField_toNat, chField_toNat, opField_toNat]
  omega

/-- The selection mask of R151 takes out the CH field and nothing else. -/
theorem toNat_and_selectMask (w : Word) : (w &&& 0xFFFFF0FF).toNat = 4096 * (w.toNat / 4096) + w.toNat % 256 := by
  have hmask : (0xFFFFF0FF : Word) = BitVec.allOnes 20 ++ 0#4 ++ BitVec.allOnes 8 := by decide
  have hand : w &&& 0xFFFFF0FF = rsvField w ++ 0#4 ++ opField w := by
    conv_lhs => rw [← fields_append w, hmask]
    rw [BitVec.and_append, BitVec.and_append, BitVec.and_allOnes, BitVec.and_zero, BitVec.and_allOnes]
  rw [hand, Machine.toNat_append_eq, Machine.toNat_append_eq, rsvField_toNat, opField_toNat, BitVec.toNat_ofNat]
  omega

/-! ### The decoder -/

theorem Instr.wf_iff (i : Instr) : i.wf = true ↔ i.chan < 16 := by
  cases i <;> simp [Instr.wf, Instr.chan, chanFits]

theorem decodeNoChannel_eq_ok_iff {ch : BitVec 4} {i j : Instr} : decodeNoChannel ch i = .ok j ↔ ch = 0 ∧ i = j := by
  unfold decodeNoChannel
  split
  · next h => simp [h]
  · next h => exact iff_of_false nofun fun ⟨hz, _⟩ => h hz

/-- The opcode map finds a command exactly by its OP and its CH (R151). -/
theorem decodeOp_eq_ok_iff {op : Byte} {ch : BitVec 4} {i : Instr} :
    decodeOp op ch = .ok i ↔ op = i.op ∧ ch.toNat = i.chan := by
  constructor
  · intro h
    have hplain {j : Instr} (hj : decodeNoChannel ch j = .ok i) (hchan : j.chan = 0) (hop : op = j.op) :
        op = i.op ∧ ch.toNat = i.chan := by
      obtain ⟨rfl, rfl⟩ := decodeNoChannel_eq_ok_iff.mp hj
      exact ⟨hop, hchan.symm⟩
    unfold decodeOp at h
    split at h
    case h_1 hop | h_5 hop | h_8 hop => exact hplain h rfl (BitVec.eq_of_toNat_eq hop)
    case h_2 hop | h_3 hop | h_4 hop | h_6 hop | h_7 hop => cases h; exact ⟨BitVec.eq_of_toNat_eq hop, rfl⟩
    case h_9 => cases h
  · rintro ⟨rfl, hch⟩
    cases i with
    | nop | broadcast | rxfDiscard => exact decodeNoChannel_eq_ok_iff.mpr ⟨BitVec.eq_of_toNat_eq hch, rfl⟩
    | join | leave | send | rxReset | rxqPop => cases hch; rfl

/-- A word decodes to a command exactly when its RSV is 0 and its OP and CH are the command's (R151). -/
theorem decode_eq_ok_iff {w : Word} {i : Instr} :
    decode w = .ok i ↔ w.toNat / 4096 = 0 ∧ w.toNat % 256 = i.op.toNat ∧ w.toNat / 256 % 16 = i.chan := by
  have hop8 : i.op.toNat < 8 := by cases i <;> exact of_decide_eq_true rfl
  rw [decode, ← rsvField_toNat, ← opField_toNat, ← chField_toNat, BitVec.toNat_inj]
  have hrsv : (rsvField w).toNat = 0 ↔ rsvField w = 0 := BitVec.toNat_inj (y := 0)
  split
  · next hbig => exact iff_of_false nofun fun ⟨_, hop, _⟩ => by rw [hop] at hbig; omega
  · split
    · next hne => exact iff_of_false nofun fun ⟨hz, _⟩ => hne (hrsv.mp hz)
    · next hz => rw [decodeOp_eq_ok_iff, hrsv, iff_true_intro (not_not.mp hz), true_and]

/-- The number that the word of a well-formed command is (R150, R155). -/
theorem encode_toNat {i : Instr} (h : i.wf = true) : (encode i).toNat = 256 * i.chan + i.op.toNat := by
  have hchan := i.wf_iff.mp h
  rw [encode, Machine.toNat_append_eq, Machine.toNat_append_eq, BitVec.toNat_ofNat, BitVec.toNat_ofNat]
  omega

/-- A word decodes to a well-formed command exactly when it is the command's encoding. -/
theorem decode_eq_ok_iff_eq_encode {w : Word} {i : Instr} (h : i.wf = true) : decode w = .ok i ↔ w = encode i := by
  have hchan := i.wf_iff.mp h
  have hop := i.op.isLt
  rw [decode_eq_ok_iff, BitVec.toNat_eq, encode_toNat h]
  omega

/-- A word decodes to a command exactly when R151's mask selects its OP and the CH field is its operand. -/
theorem decode_eq_ok_iff_masked {w : Word} {i : Instr} :
    decode w = .ok i ↔ w &&& 0xFFFFF0FF = i.op.setWidth 32 ∧ i.chan = w.toNat / 256 % 16 := by
  have hop := i.op.isLt
  rw [decode_eq_ok_iff, BitVec.toNat_eq, toNat_and_selectMask, BitVec.toNat_setWidth_of_le (by decide)]
  omega

/-! ### Illegal words (R152) -/

/-- A word is illegal exactly when it decodes to no command. -/
theorem decode_error_iff (w : Word) : (∃ e, decode w = .error e) ↔ ¬∃ i, decode w = .ok i := by
  cases decode w <;> simp

/-- Some command has a property: one of the eight rows of the opcode table does. -/
theorem Instr.exists_iff {p : Instr → Prop} :
    (∃ i, p i) ↔
      p .nop ∨ (∃ ch, p (.join ch)) ∨ (∃ ch, p (.leave ch)) ∨ (∃ ch, p (.send ch)) ∨ p .broadcast ∨
        (∃ ch, p (.rxReset ch)) ∨ (∃ ch, p (.rxqPop ch)) ∨ p .rxfDiscard := by
  constructor
  · rintro ⟨i, h⟩
    cases i with
    | nop => exact .inl h
    | join ch => exact .inr (.inl ⟨ch, h⟩)
    | leave ch => exact .inr (.inr (.inl ⟨ch, h⟩))
    | send ch => exact .inr (.inr (.inr (.inl ⟨ch, h⟩)))
    | broadcast => exact .inr (.inr (.inr (.inr (.inl h))))
    | rxReset ch => exact .inr (.inr (.inr (.inr (.inr (.inl ⟨ch, h⟩)))))
    | rxqPop ch => exact .inr (.inr (.inr (.inr (.inr (.inr (.inl ⟨ch, h⟩))))))
    | rxfDiscard => exact .inr (.inr (.inr (.inr (.inr (.inr (.inr h))))))
  · rintro (h | ⟨_, h⟩ | ⟨_, h⟩ | ⟨_, h⟩ | h | ⟨_, h⟩ | ⟨_, h⟩ | h) <;> exact ⟨_, h⟩

/-- The three clauses of R152, as numbers: any other word has the fields of a row of the opcode map. -/
theorem decode_error_iff_clauses (w : Word) :
    (∃ e, decode w = .error e) ↔
      8 ≤ w.toNat % 256 ∨ w.toNat / 4096 ≠ 0 ∨
        ((w.toNat % 256 = 0 ∨ w.toNat % 256 = 4 ∨ w.toNat % 256 = 7) ∧ w.toNat / 256 % 16 ≠ 0) := by
  rw [decode_error_iff, Instr.exists_iff]
  simp only [decode_eq_ok_iff, Instr.op, Instr.chan, BitVec.reduceToNat, exists_and_left, exists_eq', and_true]
  omega

end Sys2Proof

namespace Sys2Proof.Machine

open Sys2Proof.Safety

/-! ### What a failing command reports (R200) -/

/-- CMD_RESULT as one number (R37). -/
theorem resultWord_eq_resultOf (op : Byte) (ch : BitVec 4) (code : ResultCode) :
    resultWord op ch code = resultOf op.toNat ch.toNat code.toByte.toNat := by
  refine BitVec.eq_of_toNat_eq ?_
  rw [resultWord, resultOf, toNat_append_eq, toNat_append_eq, toNat_append_eq, BitVec.toNat_ofNat, BitVec.toNat_ofNat]
  omega

/-- A completion with an error code, of a state nothing else has changed, only reports the code. -/
theorem next_complete_error (op : Byte) (ch : BitVec 4) {code : ResultCode} (h : code ≠ .ok) (s : State) :
    .next (complete op ch code s) = reported s op.toNat ch.toNat code.toByte.toNat := by
  rw [complete_error op ch h, resultWord_eq_resultOf]
  rfl

/-- A CMD write of an illegal word only reports ILLEGAL (R152). -/
theorem commandWrite_of_error {w : Word} (h : ∃ e, decode w = .error e) (s : State) :
    commandWrite w s = reported s (w.toNat % 256) (w.toNat / 256 % 16) 0xFF := by
  rcases commandWrite_cases w s with ⟨i, hi, -⟩ | ⟨-, -, hc⟩
  · exact absurd ⟨i, hi⟩ ((decode_error_iff w).mp h)
  · rw [hc, illegalCommand, next_complete_error _ _ (by decide), opField_toNat, chField_toNat]
    rfl

/-- A command whose CH operand names no channel only reports BAD_CHANNEL (R153, R201). -/
theorem exec_of_missingChannel {i : Instr} (h : 4 ≤ i.chan) (s : State) :
    exec i s = .next (complete i.op (BitVec.ofNat 4 i.chan) .badChannel s) := by
  cases i with
  | nop | broadcast | rxfDiscard => exact absurd h (by decide)
  | join | leave | send | rxReset | rxqPop => exact congrArg Host.Outcome.next (channelCommand_bad _ h s _)

end Sys2Proof.Machine
end

section
/-! The encoding of commands: O3, O4, O5. -/

namespace Sys2Proof.Machine

open Sys2Proof.Safety

/-- Settles O3: a channel command by the mask, any other by its one encoding; the illegal words by R152's clauses. -/
theorem selectionByOpcode : Obligations.SelectionByOpcode := by
  unfold Obligations.SelectionByOpcode
  intro w
  refine ⟨decode_eq_ok_iff_eq_encode rfl, fun _ => decode_eq_ok_iff_masked, fun _ => decode_eq_ok_iff_masked,
    fun _ => decode_eq_ok_iff_masked, decode_eq_ok_iff_eq_encode rfl, fun _ => decode_eq_ok_iff_masked,
    fun _ => decode_eq_ok_iff_masked, decode_eq_ok_iff_eq_encode rfl, ?_⟩
  rw [decode_error_iff_clauses]
  simp only [BitVec.toNat_eq, toNat_and_selectMask, BitVec.reduceToNat]
  omega

/-- Settles O4: the write is one HOST step at CMD's offset, which completes with ILLEGAL. -/
theorem illegalWordOnlyReports : Obligations.IllegalWordOnlyReports := by
  unfold Obligations.IllegalWordOnlyReports
  refine fun w => ⟨decode_error_iff_clauses w, fun s herr hr => ?_⟩
  rw [runEvent_runs _ _ (.inl hr)]
  exact (hostStep_cmd w s).trans (commandWrite_of_error herr s)

/-- Settles O5: the word is the command's encoding, and a missing channel completes with BAD_CHANNEL. -/
theorem missingChannelReportsBadChannel : Obligations.MissingChannelReportsBadChannel := by
  unfold Obligations.MissingChannelReportsBadChannel
  intro s ch hlo hhi i hi
  have hchan : i.chan = ch := by
    simp only [List.mem_cons, List.not_mem_nil, or_false] at hi
    rcases hi with rfl | rfl | rfl | rfl | rfl <;> rfl
  subst hchan
  refine ⟨(decode_eq_ok_iff_eq_encode (i.wf_iff.mpr (by omega))).mpr rfl, ?_⟩
  rw [exec_of_missingChannel hlo, next_complete_error _ _ (by decide), BitVec.toNat_ofNat, Nat.mod_eq_of_lt (by omega)]
  rfl

end Sys2Proof.Machine
end

section
/-! SUPPORT. The commands (spec/40_commands.md): the words of a command, and what a channel command answers where its body
succeeds or fails. -/

namespace Sys2Proof.Machine

open Sys2Proof.Safety

/-! ### The words of a command (R151 to R153, R201) -/

/-- A command whose CH operand names no channel only reports BAD_CHANNEL, with its own OP and CH. -/
theorem exec_missingChannel_reported {i : Instr} (hlo : 4 ≤ i.chan) (hhi : i.chan ≤ 15) (s : State) :
    exec i s = reported s i.op.toNat i.chan 0x01 := by
  rw [exec_of_missingChannel hlo, next_complete_error _ _ (by decide), BitVec.toNat_ofNat, Nat.mod_eq_of_lt (by omega)]
  rfl

/-- A family of commands with one OP and the operand in CH has the words of a channel command. -/
theorem channelCommand_of_fields {op : Nat} {mk : Nat → Instr} (hop : ∀ ch, (mk ch).op.toNat = op)
    (hchan : ∀ ch, (mk ch).chan = ch) : ChannelCommand op mk where
  word ch hch := by
    have hlt : op < 256 := hop ch ▸ (mk ch).op.isLt
    rw [decode_eq_ok_iff, hop, hchan, BitVec.toNat_ofNat]
    omega
  badChannel s ch hlo hhi := by
    simpa only [hop, hchan] using exec_missingChannel_reported (i := mk ch) (by rwa [hchan]) (by rwa [hchan]) s
  illegal s w hw hrsv := hw ▸ commandWrite_of_error ((decode_error_iff_clauses w).mpr (.inr (.inl hrsv))) s

/-- A command with CH 0 whose OP is that of NOP, BROADCAST or RXF_DISCARD has the word of a command without channel. -/
theorem plainCommand_of_fields {op : Nat} {i : Instr} (hop : i.op.toNat = op) (hchan : i.chan = 0)
    (hplain : op = 0 ∨ op = 4 ∨ op = 7) : PlainCommand op i where
  word := by
    rw [decode_eq_ok_iff, hop, hchan, BitVec.toNat_ofNat]
    omega
  illegal s w hw hne := hw ▸ commandWrite_of_error ((decode_error_iff_clauses w).mpr (by omega)) s

/-! ### Completion (R200) -/

/-- A completion with OK only writes CMD_RESULT. -/
theorem complete_ok_eq_resultOf (op : Byte) (ch : BitVec 4) (s : State) :
    complete op ch .ok s = { s with cmdResult := resultOf op.toNat ch.toNat 0x00 } := by
  rw [complete_ok, resultWord_eq_resultOf]
  rfl

theorem toNat_ofNat_chan (c : Chan) : (BitVec.ofNat 4 c.val).toNat = c.val :=
  Nat.mod_eq_of_lt (by omega)

/-- A channel command whose body succeeds answers the body's state and OK. -/
theorem next_channelCommand_ok (op : Byte) {c : Chan} {s u : State} {body : Chan → State → ResultCode × State}
    (h : body c s = (.ok, u)) :
    (.next (channelCommand op c.val s body) : Result) = .next { u with cmdResult := resultOf op.toNat c.val 0x00 } := by
  rw [channelCommand_val, h, complete_ok_eq_resultOf, toNat_ofNat_chan]

/-- A channel command whose body fails and changes nothing only reports the body's code. -/
theorem next_channelCommand_error (op : Byte) {c : Chan} {s : State} {body : Chan → State → ResultCode × State}
    {code : ResultCode} (hcode : code ≠ .ok) (h : body c s = (code, s)) :
    .next (channelCommand op c.val s body) = reported s op.toNat c.val code.toByte.toNat := by
  rw [channelCommand_val, h, next_complete_error _ _ hcode, toNat_ofNat_chan]

theorem chan_with_cmdResult (s : State) (r : Word) (c : Chan) : State.chan { s with cmdResult := r } c = s.chan c := rfl

/-! ### What the registers then show -/

theorem readAt_phaseRd (s : State) (c : Chan) : readAt s (chb c + 0x28) = readChanReg (s.chan c) .phaseRd :=
  readAt_chb s c 10

theorem readAt_ftwRd (s : State) (c : Chan) : readAt s (chb c + 0x2C) = readChanReg (s.chan c) .ftwRd :=
  readAt_chb s c 11

theorem readAt_rxWin (s : State) (c : Chan) : readAt s (chb c + 0x34) = readChanReg (s.chan c) .rxWin :=
  readAt_chb s c 13

theorem readAt_rxChunk (s : State) (c : Chan) : readAt s (chb c + 0x38) = readChanReg (s.chan c) .rxChunk :=
  readAt_chb s c 14

/-- After rx_clear RX_WIN reads 0 (R48, R69). -/
theorem readChanReg_rxWin_rxClear (ch : Channel) : readChanReg ch.rxClear .rxWin = 0 := by
  rw [readChanReg, rxClear_rx]
  decide

/-- After rx_clear RX_CHUNK reads 0 (R48, R69). -/
theorem readChanReg_rxChunk_rxClear (ch : Channel) : readChanReg ch.rxClear .rxChunk = 0 := by
  rw [readChanReg, rxClear_rx]
  decide

theorem readAt_status (s : State) : readAt s 0x00C = statusValue s := rfl

/-- RXF_LEVEL of STATUS (R34). -/
theorem statusValue_rxfLevel (s : State) : (statusValue s).extractLsb' 8 7 = s.rxf.viewW - s.rxf.r := by
  have hval := statusValue_toNat s
  have htx := (s.txf.w - s.txf.viewR).isLt
  have hrx := (s.rxf.viewW - s.rxf.r).isLt
  refine BitVec.eq_of_toNat_eq ?_
  rw [BitVec.extractLsb'_toNat, Nat.shiftRight_eq_div_pow]
  omega

/-- A channel that is not joined is silent (R351). -/
theorem txSlot_sample_of_unjoined {s : State} {c : Chan} (h : (s.chan c).joined = false) : (s.txSlot c).sample = 0 := by
  rw [State.txSlot]
  rcases txPart_cases (s.activeByte c) (s.chan c) with ⟨-, hp⟩ | ⟨hplay, -⟩
  · rw [hp]
  · simp [Channel.playing, h] at hplay

/-! ### JOIN (R204, R210) -/

/-- Where a check of JOIN fails, JOIN only reports its code. -/
theorem exec_join_of_check {s : State} {c : Chan} {code : ResultCode} (hcheck : joinCheck s.sampleRate (s.chan c) = code)
    (hcode : code ≠ .ok) : exec (.join c.val) s = reported s 0x01 c.val code.toByte.toNat := by
  subst hcheck
  rcases joinCore_cases c s with ⟨hok, -⟩ | ⟨-, hb⟩
  · exact absurd hok hcode
  · exact next_channelCommand_error 0x01 hcode hb

/-- Where every check of JOIN passes, JOIN builds the engine. -/
theorem exec_join_of_joinable {s : State} {c : Chan} (h : Joinable s c) :
    exec (.join c.val) s = .next
      { s.setChan c (joinChannel s.sampleRate (s.chan c)) with cmdResult := resultOf 0x01 c.val 0x00 } := by
  rcases joinCore_cases c s with ⟨-, hb⟩ | ⟨hne, -⟩
  · exact next_channelCommand_ok 0x01 hb
  · exact absurd ((joinCheck_eq_ok_iff s c).mpr h) hne

/-- A check of JOIN that fails has one of the six codes of R204. -/
theorem joinCheck_toByte_mem {sr : Word} {ch : Channel} (h : joinCheck sr ch ≠ .ok) :
    (joinCheck sr ch).toByte.toNat ∈ [0x03, 0x04, 0x05, 0x06, 0x07, 0x08] := by
  revert h
  simp only [joinCheck]
  split_ifs <;> decide

/-- R206's rounding, at the tuning word (R205). -/
theorem tuningWord_toNat (f sr : Nat) : (tuningWord f sr).toNat = (f * 2 ^ 33 + sr) / (2 * sr) % 2 ^ 32 := by
  rw [tuningWord, BitVec.toNat_ofNat, roundHalfUp, show 2 * (f * 2 ^ 32) = f * 2 ^ 33 by omega]

theorem joinChannel_ftw_getElem (sr : Word) (ch : Channel) (i : Lane) :
    (joinChannel sr ch).ftw[i.val] =
      if i.val < 2 ^ ch.order.toNat then tuningWord (toneFreq ch i.val) sr.toNat else 0 := by
  simp

/-- The symbol period of a channel JOIN accepts fits P_ACT (R204, R206). -/
theorem joinChannel_pAct_toNat {s : State} {c : Chan} (h : Joinable s c) :
    (joinChannel s.sampleRate (s.chan c)).pAct.toNat = symbolPeriod s.sampleRate.toNat (s.chan c).symbolRate.toNat := by
  rw [joinChannel_pAct, BitVec.toNat_ofNat]
  exact Nat.mod_eq_of_lt (Nat.lt_succ_of_le h.periodHi)

/-! ### SEND (R220) -/

theorem startMessage_eq (ch : Channel) :
    startMessage ch = { ch with
      stg := !ch.stg, actLen := ch.txLen, txSym := 0, txSamp := 0, txBusy := decide (ch.txLen.toNat ≠ 0) } := by
  have hzero : ch.txLen ≠ 0 ↔ ch.txLen.toNat ≠ 0 := not_congr (BitVec.toNat_inj (y := 0)).symm
  rw [startMessage, decide_eq_decide.mpr hzero]

/-- Once a message has started, the staging window shows the bank that was active before (R60, R120). -/
theorem stageByte_of_startMessage {s t : State} {c : Chan} (hepoch : t.epoch = s.epoch)
    (hchan : t.chan c = startMessage (s.chan c)) (k : Nat) :
    stageByte t c k = s.txb c (!(s.chan c).stg) (BitVec.ofNat 8 k) := by
  rw [stageByte, State.txb, State.txb, hepoch, hchan, startMessage_stg, startMessage_txb]

/-- The flag a started message raises: TX_DONE[c] for an empty message, else none. -/
theorem raise_txDone (s : State) (c : Chan) (len : BitVec 9) :
    s.raise (if len = 0 then txDoneBit c else 0) =
      { s with irqStatus := if len.toNat = 0 then s.irqStatus ||| bit c.val else s.irqStatus } := by
  have hzero : len.toNat = 0 ↔ len = 0 := BitVec.toNat_inj (y := 0)
  rw [State.raise]
  split
  · next h => rw [if_pos (hzero.mpr h), txDoneBit]
  · next h => rw [if_neg (mt hzero.mp h), show (0 : Word) = 0#32 from rfl, BitVec.or_zero]

end Sys2Proof.Machine
end

section
/-! The commands other than BROADCAST: O8, O9, O10, O11, O12, O14, O15, O16. -/

namespace Sys2Proof.Machine

open Sys2Proof.Safety

/-- Settles O8: NOP's completion is CMD_RESULT = 0. -/
theorem nopClearsResult : Obligations.NopClearsResult := by
  unfold Obligations.NopClearsResult
  refine ⟨fun s => ?_, plainCommand_of_fields rfl rfl (.inl rfl)⟩
  exact congrArg Host.Outcome.next (complete_ok_eq_resultOf 0x00 0 s)

/-- Settles O9: the checks decide between the engine and a report; each computed field of the engine by its own lemma. -/
theorem joinBuildsEngine : Obligations.JoinBuildsEngine := by
  unfold Obligations.JoinBuildsEngine
  refine ⟨channelCommand_of_fields (fun _ => rfl) (fun _ => rfl), fun s c => ⟨fun hjoin => ?_, fun hjoin => ?_⟩⟩
  · refine ⟨_, exec_join_of_joinable hjoin, rfl, joinChannel_pAct_toNat hjoin, fun i hi => ?_, fun i hi => ?_, ?_⟩
    · rw [joinChannel_ftw_getElem, if_pos hi, tuningWord_toNat, toneFreq]
    · rw [joinChannel_ftw_getElem, if_neg (not_lt.mpr hi)]
    · exact decide_eq_true_iff
  · have hne := mt (joinCheck_eq_ok_iff s c).mp hjoin
    exact ⟨_, joinCheck_toByte_mem hne, exec_join_of_check rfl hne⟩

/-- Settles O10: each clause gives the checks before its own as passed, so JOIN's check answers its code. -/
theorem joinChecksInOrder : Obligations.JoinChecksInOrder := by
  unfold Obligations.JoinChecksInOrder
  intro s c ch o sr symR p f fails
  have hfails {code : ResultCode} (h : joinCheck s.sampleRate ch = code) (hne : code ≠ .ok) :
      fails code.toByte.toNat := exec_join_of_check h hne
  have hcheck : joinCheck s.sampleRate ch =
      if ch.joined = true then .alreadyJoined else if o < 1 ∨ 4 < o then .cfgOrder else if sr = 0 then .cfgSampleRate
      else if symR = 0 then .cfgSymbolRate else if p < 1 ∨ 65535 < p then .cfgPeriod
      else if f < 1 ∨ 4096 < f ∨ 32 < ((4 + (f - 1) / p) * o + 7) / 8 then .cfgFrame else .ok := rfl
  refine ⟨fun hj => hfails (code := .alreadyJoined) ?_ (by decide),
    fun hj ho => hfails (code := .cfgOrder) ?_ (by decide),
    fun hj hlo hhi hsr => hfails (code := .cfgSampleRate) ?_ (by decide),
    fun hj hlo hhi hsr hsym => hfails (code := .cfgSymbolRate) ?_ (by decide),
    fun hj hlo hhi hsr hsym hp => hfails (code := .cfgPeriod) ?_ (by decide),
    fun hj hlo hhi hsr hsym hplo hphi hframe => hfails (code := .cfgFrame) ?_ (by decide)⟩
  · rw [hcheck, if_pos hj]
  · rw [hcheck, if_neg (Bool.eq_false_iff.mp hj), if_pos (by omega)]
  · rw [hcheck, if_neg (Bool.eq_false_iff.mp hj), if_neg (by omega), if_pos hsr]
  · rw [hcheck, if_neg (Bool.eq_false_iff.mp hj), if_neg (by omega), if_neg hsr, if_pos hsym]
  · rw [hcheck, if_neg (Bool.eq_false_iff.mp hj), if_neg (by omega), if_neg hsr, if_neg hsym, if_pos (by omega)]
  · have hlast : f < 1 ∨ 4096 < f ∨ 32 < ((4 + (f - 1) / p) * o + 7) / 8 := by
      rcases hframe with hf | hbytes
      · omega
      · exact .inr (.inr hbytes)
    rw [hcheck, if_neg (Bool.eq_false_iff.mp hj), if_neg (by omega), if_neg hsr, if_neg hsym, if_neg (by omega),
      if_pos hlast]

/-- Settles O11: the closed channel plays nothing, and PHASE_RD and FTW_RD read fields it keeps. -/
theorem leaveClosesSession : Obligations.LeaveClosesSession := by
  unfold Obligations.LeaveClosesSession
  refine ⟨channelCommand_of_fields (fun _ => rfl) (fun _ => rfl), fun s c => ?_⟩
  rcases leaveCore_cases c s with ⟨hj, hb⟩ | ⟨hj, hb⟩
  · refine ⟨fun _ => ⟨_, next_channelCommand_ok 0x02 hb, rfl, ?_, ?_, ?_⟩,
      fun h => Bool.noConfusion (hj.symm.trans h)⟩
    · refine txSlot_sample_of_unjoined ?_
      rw [chan_with_cmdResult, chan_setChan_self]
      rfl
    · rw [readAt_phaseRd, readAt_phaseRd, chan_with_cmdResult, chan_setChan_self]
      rfl
    · rw [readAt_ftwRd, readAt_ftwRd, chan_with_cmdResult, chan_setChan_self]
      rfl
  · exact ⟨fun h => Bool.noConfusion (hj.symm.trans h),
      fun _ => next_channelCommand_error (code := .notJoined) 0x02 (by decide) hb⟩

/-- Settles O12: send_core's two cases on a joined channel; the flipped bank is the one staged before. -/
theorem sendReplacesMessage : Obligations.SendReplacesMessage := by
  unfold Obligations.SendReplacesMessage
  refine ⟨channelCommand_of_fields (fun _ => rfl) (fun _ => rfl), fun s c => ?_⟩
  rcases sendJoined_cases c s with ⟨hj, hb⟩ | ⟨hj, hb⟩
  · refine ⟨fun _ hlen => ?_, fun _ hlen => ?_, fun h => Bool.noConfusion (hj.symm.trans h)⟩
    · have hsend := hb.trans ((sendCore_cases c s).resolve_left fun h => not_lt.mpr hlen h.1).2
      refine ⟨_, next_channelCommand_ok 0x03 hsend, ?_, fun k => ?_⟩
      · rw [startMessage_eq, raise_txDone]
        rfl
      · refine stageByte_of_startMessage (s := s) ?_ ?_ k
        · rfl
        · rw [chan_with_cmdResult, chan_raise, chan_setChan_self]
    · have hsend := hb.trans ((sendCore_cases c s).resolve_right fun h => not_lt.mpr h.1 hlen).2
      exact next_channelCommand_error (code := .lenRange) 0x03 (by decide) hsend
  · exact ⟨fun h => Bool.noConfusion (hj.symm.trans h), fun h => Bool.noConfusion (hj.symm.trans h),
      fun _ => next_channelCommand_error (code := .notJoined) 0x03 (by decide) hb⟩

/-- Settles O14: the two registers read counters that rx_clear has cleared. -/
theorem rxResetClearsReceiveState : Obligations.RxResetClearsReceiveState := by
  unfold Obligations.RxResetClearsReceiveState
  refine ⟨channelCommand_of_fields (fun _ => rfl) (fun _ => rfl), fun s c => ?_⟩
  rcases rxResetCore_cases c s with ⟨hj, hb⟩ | ⟨hj, hb⟩
  · refine ⟨fun _ => ⟨_, next_channelCommand_ok 0x05 hb, rfl, ?_, ?_⟩,
      fun h => Bool.noConfusion (hj.symm.trans h)⟩
    · rw [readAt_rxWin, chan_with_cmdResult, chan_setChan_self, readChanReg_rxWin_rxClear]
    · rw [readAt_rxChunk, chan_with_cmdResult, chan_setChan_self, readChanReg_rxChunk_rxClear]
  · exact ⟨fun h => Bool.noConfusion (hj.symm.trans h),
      fun _ => next_channelCommand_error (code := .notJoined) 0x05 (by decide) hb⟩

/-- Settles O15: the three cases of RXQ_POP's body. -/
theorem rxqPopRemovesHead : Obligations.RxqPopRemovesHead := by
  unfold Obligations.RxqPopRemovesHead
  refine ⟨channelCommand_of_fields (fun _ => rfl) (fun _ => rfl), fun s c => ?_⟩
  rcases rxqPopCore_cases c s with ⟨hj, m, rest, hq, hb⟩ | ⟨hj, hq, hb⟩ | ⟨hj, hb⟩
  · refine ⟨fun m' rest' _ hq' => ?_, fun _ h => absurd (hq.symm.trans h) (List.cons_ne_nil m rest),
      fun h => Bool.noConfusion (hj.symm.trans h)⟩
    obtain ⟨rfl, rfl⟩ := List.cons.inj (hq.symm.trans hq')
    exact next_channelCommand_ok 0x06 hb
  · exact ⟨fun m rest _ h => absurd (h.symm.trans hq) (List.cons_ne_nil m rest),
      fun _ _ => next_channelCommand_error (code := .rxqEmpty) 0x06 (by decide) hb,
      fun h => Bool.noConfusion (hj.symm.trans h)⟩
  · exact ⟨fun _ _ h => Bool.noConfusion (hj.symm.trans h), fun h => Bool.noConfusion (hj.symm.trans h),
      fun _ => next_channelCommand_error (code := .notJoined) 0x06 (by decide) hb⟩

/-- Settles O16: RXF_LEVEL is the field of STATUS that R has caught up with. -/
theorem rxfDiscardDropsVisibleEntries : Obligations.RxfDiscardDropsVisibleEntries := by
  unfold Obligations.RxfDiscardDropsVisibleEntries
  refine ⟨plainCommand_of_fields rfl rfl (.inr (.inr rfl)), fun s => ?_⟩
  refine ⟨_, congrArg Host.Outcome.next (complete_ok_eq_resultOf 0x07 0 _), rfl, ?_, rfl⟩
  rw [readAt_status, statusValue_rxfLevel]
  exact BitVec.sub_self _

end Sys2Proof.Machine
end

section
/-! SUPPORT. BROADCAST's loop: the code, the channels, the flags and the frame, turn by turn and as a whole
(spec/40_commands.md R225). -/

namespace Sys2Proof.Machine

open Sys2Proof.Safety

/-! ### Flags -/

theorem bit_getLsbD {n : Nat} (hn : n < 32) (b : Nat) : (bit n).getLsbD b = decide (b = n) := by
  rw [bit, BitVec.getLsbD_ofNat, Nat.testBit_two_pow]
  by_cases hb : b = n
  · subst hb; simp [hn]
  · simp [hb, Ne.symm hb]

/-! ### What a channel's staged message makes of BROADCAST -/

/-- A joined channel whose TX_LEN is above 256: BROADCAST skips it and reports LEN_RANGE. -/
def overlong (ch : Channel) : Bool := ch.joined && decide (256 < ch.txLen.toNat)

/-- A joined channel with an empty message: BROADCAST completes it at once. -/
def stagedEmpty (ch : Channel) : Bool := ch.joined && decide (ch.txLen.toNat = 0)

/-- A started message leaves JOINED and TX_LEN, and so what the next BROADCAST makes of the channel. -/
theorem overlong_startMessage (ch : Channel) : overlong (startMessage ch) = overlong ch := rfl

theorem stagedEmpty_startMessage (ch : Channel) : stagedEmpty (startMessage ch) = stagedEmpty ch := rfl

/-! ### One turn -/

/-- A turn leaves what BROADCAST makes of any channel. -/
theorem broadcastTurn_keeps {α : Type} {p : Channel → α} (hp : ∀ ch, p (startMessage ch) = p ch)
    (r : ResultCode × State) (c d : Chan) : p ((broadcastTurn r c).2.chan d) = p (r.2.chan d) := by
  by_cases hd : d = c
  · subst hd
    rcases chan_broadcastTurn_self r d with ht | ⟨-, -, ht⟩ <;> rw [ht]
    exact hp _
  · rw [chan_broadcastTurn_of_ne r hd]

theorem broadcastTurn_code (r : ResultCode × State) (c : Chan) :
    (broadcastTurn r c).1 = if overlong (r.2.chan c) then .lenRange else r.1 := by
  rcases broadcastTurn_cases r.1 r.2 c with ⟨hj, ht⟩ | ⟨hj, hl, ht⟩ | ⟨hj, hl, ht⟩ <;> rw [ht]
  · simp [overlong, hj]
  · simp [overlong, hj, hl]
  · simp [overlong, Nat.not_lt.mpr hl]

theorem broadcastTurn_irqStatus (r : ResultCode × State) (c : Chan) (b : Nat) :
    (broadcastTurn r c).2.irqStatus.getLsbD b =
      (r.2.irqStatus.getLsbD b || (decide (c.val = b) && stagedEmpty (r.2.chan c))) := by
  rcases broadcastTurn_cases r.1 r.2 c with ⟨hj, ht⟩ | ⟨hj, hl, ht⟩ | ⟨hj, hl, ht⟩ <;> rw [ht]
  · simp [stagedEmpty, hj]
  · have hne : (r.2.chan c).txLen.toNat ≠ 0 := by omega
    simp [stagedEmpty, hne]
  · rw [raise_txDone, setChan_irqStatus]
    by_cases hz : (r.2.chan c).txLen.toNat = 0
    · simp [stagedEmpty, hj, hz, bit_getLsbD (show c.val < 32 by omega), eq_comm]
    · simp [stagedEmpty, hz]

/-! ### The loop -/

theorem foldl_broadcastTurn_code (cs : List Chan) (r : ResultCode × State) :
    (cs.foldl broadcastTurn r).1 = if cs.any fun c => overlong (r.2.chan c) then .lenRange else r.1 := by
  induction cs generalizing r with
  | nil => rfl
  | cons c cs ih =>
    rw [List.foldl_cons, ih, broadcastTurn_code, List.any_cons]
    simp only [broadcastTurn_keeps overlong_startMessage]
    cases overlong (r.2.chan c) <;> simp

theorem foldl_broadcastTurn_irqStatus (cs : List Chan) (r : ResultCode × State) (b : Nat) :
    (cs.foldl broadcastTurn r).2.irqStatus.getLsbD b =
      (r.2.irqStatus.getLsbD b || cs.any fun c => decide (c.val = b) && stagedEmpty (r.2.chan c)) := by
  induction cs generalizing r with
  | nil => simp
  | cons c cs ih =>
    rw [List.foldl_cons, ih, broadcastTurn_irqStatus, List.any_cons, Bool.or_assoc]
    simp only [broadcastTurn_keeps stagedEmpty_startMessage]

/-- The loop starts the message of every joined channel it visits whose TX_LEN is at most 256. -/
theorem chan_foldl_broadcastTurn_of_sends {cs : List Chan} (hcs : cs.Nodup) (r : ResultCode × State) {d : Chan}
    (hd : d ∈ cs) (hj : (r.2.chan d).joined = true) (hl : (r.2.chan d).txLen.toNat ≤ 256) :
    (cs.foldl broadcastTurn r).2.chan d = startMessage (r.2.chan d) := by
  induction cs generalizing r with
  | nil => cases hd
  | cons c cs ih =>
    obtain ⟨hc, hcs⟩ := List.nodup_cons.mp hcs
    rw [List.foldl_cons]
    by_cases hdc : d = c
    · subst hdc
      rw [chan_foldl_broadcastTurn_of_not_mem cs _ hc]
      rcases broadcastTurn_cases r.1 r.2 d with ⟨hj', -⟩ | ⟨-, hl', -⟩ | ⟨-, -, ht⟩
      · exact Bool.noConfusion (hj.symm.trans hj')
      · omega
      · rw [ht, chan_raise, chan_setChan_self]
    · have hkeep := chan_broadcastTurn_of_ne r hdc
      rw [← hkeep] at hj hl ⊢
      exact ih hcs _ (List.mem_of_ne_of_mem hdc hd) hj hl

/-- The loop writes the channels and IRQ_STATUS, and nothing else. -/
theorem foldl_broadcastTurn_frame (cs : List Chan) (r : ResultCode × State) :
    (cs.foldl broadcastTurn r).2 = { r.2 with
      chans := (cs.foldl broadcastTurn r).2.chans, irqStatus := (cs.foldl broadcastTurn r).2.irqStatus } := by
  induction cs generalizing r with
  | nil => rfl
  | cons c cs ih =>
    refine (ih _).trans ?_
    rw [List.foldl_cons]
    rcases broadcastTurn_cases r.1 r.2 c with ⟨-, ht⟩ | ⟨-, -, ht⟩ | ⟨-, -, ht⟩ <;> rw [ht]
    rfl

/-! ### BROADCAST -/

theorem mem_allChans : ∀ c : Chan, c ∈ allChans := by decide

/-- BROADCAST's code is LEN_RANGE or OK: it says whether some channel was skipped for its TX_LEN. -/
theorem broadcastAll_code_cases (s : State) :
    ((∃ c : Chan, (s.chan c).joined = true ∧ 256 < (s.chan c).txLen.toNat) ∧ (broadcastAll s).1 = .lenRange) ∨
    ((¬∃ c : Chan, (s.chan c).joined = true ∧ 256 < (s.chan c).txLen.toNat) ∧ (broadcastAll s).1 = .ok) := by
  have hany : (allChans.any fun c => overlong (s.chan c)) = true ↔
      ∃ c : Chan, (s.chan c).joined = true ∧ 256 < (s.chan c).txLen.toNat := by
    simp only [List.any_eq_true, mem_allChans, true_and, overlong, Bool.and_eq_true, decide_eq_true_eq]
  rw [← hany, broadcastAll, foldl_broadcastTurn_code]
  cases allChans.any fun c => overlong (s.chan c)
  · exact .inr ⟨Bool.false_ne_true, rfl⟩
  · exact .inl ⟨rfl, rfl⟩

/-- BROADCAST's loop sets TX_DONE[c] for each joined channel with an empty message. -/
theorem broadcastAll_irqStatus (s : State) (b : Nat) :
    (broadcastAll s).2.irqStatus.getLsbD b =
      (s.irqStatus.getLsbD b ||
        decide (∃ c : Chan, c.val = b ∧ (s.chan c).joined = true ∧ (s.chan c).txLen.toNat = 0)) := by
  rw [broadcastAll, foldl_broadcastTurn_irqStatus]
  congr 1
  rw [Bool.eq_iff_iff]
  simp only [List.any_eq_true, mem_allChans, true_and, stagedEmpty, Bool.and_eq_true, decide_eq_true_eq]

theorem chan_broadcastAll_of_sends {s : State} {c : Chan} (hj : (s.chan c).joined = true)
    (hl : (s.chan c).txLen.toNat ≤ 256) : (broadcastAll s).2.chan c = startMessage (s.chan c) :=
  chan_foldl_broadcastTurn_of_sends (by decide) (.ok, s) (mem_allChans c) hj hl

theorem chan_broadcastAll_of_skips {s : State} {c : Chan}
    (h : (s.chan c).joined = false ∨ 256 < (s.chan c).txLen.toNat) : (broadcastAll s).2.chan c = s.chan c := by
  rcases chan_foldl_broadcastTurn allChans (by decide) (.ok, s) c with hb | ⟨hj, hl, -⟩
  · exact hb
  · rcases h with h | h
    · exact Bool.noConfusion (hj.symm.trans h)
    · exact absurd h (Nat.not_lt.mpr hl)

/-! ### Completion (R200) -/

/-- A completion sets CMD_ERR exactly for a code other than OK. -/
theorem complete_irqStatus_getLsbD (op : Byte) (ch : BitVec 4) (code : ResultCode) (s : State) (b : Nat) :
    (complete op ch code s).irqStatus.getLsbD b = (s.irqStatus.getLsbD b || decide (b = 18 ∧ code ≠ .ok)) := by
  by_cases h : code = .ok
  · simp [complete, h]
  · simp [complete, h, cmdErrBit, bit_getLsbD]

theorem exec_broadcast (s : State) :
    exec .broadcast s = .next (complete 0x04 0 (broadcastAll s).1 (broadcastAll s).2) := rfl

/-- BROADCAST writes the channels, CMD_RESULT and IRQ_STATUS, and nothing else. -/
theorem complete_broadcastAll_frame (code : ResultCode) (s : State) :
    complete 0x04 0 code (broadcastAll s).2 = { s with
      chans := (complete 0x04 0 code (broadcastAll s).2).chans, cmdResult := resultOf 0x04 0 code.toByte.toNat,
      irqStatus := (complete 0x04 0 code (broadcastAll s).2).irqStatus } := by
  have hframe : (broadcastAll s).2 = { s with
      chans := (broadcastAll s).2.chans, irqStatus := (broadcastAll s).2.irqStatus } :=
    foldl_broadcastTurn_frame allChans (.ok, s)
  have hresult : resultWord 0x04 0 code = resultOf 0x04 0 code.toByte.toNat := resultWord_eq_resultOf 0x04 0 code
  rw [← hresult]
  conv_lhs => rw [hframe]
  rfl

end Sys2Proof.Machine
end

section
/-! SUPPORT. What the completion of a CMD write leaves unchanged (spec/40_commands.md R200). -/

namespace Sys2Proof.Machine

open Sys2Proof.Safety

/-- What a command's body answers from `s` before its completion: it leaves CMD_ERR alone, and where it fails it changes
nothing. -/
structure FailsCleanly (s : State) (r : ResultCode × State) : Prop where
  cmdErr : r.2.irqStatus.getLsbD 18 = s.irqStatus.getLsbD 18
  unchanged : r.1 ≠ .ok → r.2 = s

theorem FailsCleanly.ok {s u : State} (h : u.irqStatus.getLsbD 18 = s.irqStatus.getLsbD 18) : FailsCleanly s (.ok, u) :=
  ⟨h, fun hne => absurd rfl hne⟩

theorem FailsCleanly.same (s : State) (code : ResultCode) : FailsCleanly s (code, s) := ⟨rfl, fun _ => rfl⟩

/-- Starting a message raises no flag but TX_DONE, which is not CMD_ERR. -/
theorem sendCore_failsCleanly (c : Chan) (s : State) : FailsCleanly s (sendCore c s) := by
  rcases sendCore_cases c s with ⟨-, hb⟩ | ⟨-, hb⟩ <;> rw [hb]
  · exact .same s _
  · refine .ok ?_
    have hbit : (bit c.val).getLsbD 18 = false := by
      rw [bit_getLsbD (by omega)]
      exact decide_eq_false (by omega)
    rw [raise_txDone]
    split
    · rw [BitVec.getLsbD_or, hbit, Bool.or_false, setChan_irqStatus]
    · rfl

/-- A channel command completes what its body answers, and a missing channel answers BAD_CHANNEL unchanged. -/
theorem channelCommand_completes (op : Byte) (ch : Nat) {s : State} {body : Chan → State → ResultCode × State}
    (h : ∀ c, FailsCleanly s (body c s)) :
    ∃ r, (.next (channelCommand op ch s body) : Result) = .next (complete op (BitVec.ofNat 4 ch) r.1 r.2) ∧
      FailsCleanly s r := by
  rcases chanOperand_cases ch with ⟨hch, -⟩ | ⟨c, rfl, -⟩
  · exact ⟨(.badChannel, s), congrArg _ (channelCommand_bad op hch s body), .same s _⟩
  · exact ⟨body c s, congrArg _ (channelCommand_val op c s body), h c⟩

/-- Every command but BROADCAST completes an answer that fails cleanly. -/
theorem exec_failsCleanly {i : Instr} (hi : i ≠ .broadcast) (s : State) :
    ∃ r, exec i s = .next (complete i.op (BitVec.ofNat 4 i.chan) r.1 r.2) ∧ FailsCleanly s r := by
  cases i with
  | nop => exact ⟨(.ok, s), rfl, .same s _⟩
  | join ch =>
    refine channelCommand_completes _ ch fun c => ?_
    rcases joinCore_cases c s with ⟨-, hb⟩ | ⟨-, hb⟩ <;> rw [hb]
    · exact .ok rfl
    · exact .same s _
  | leave ch =>
    refine channelCommand_completes _ ch fun c => ?_
    rcases leaveCore_cases c s with ⟨-, hb⟩ | ⟨-, hb⟩ <;> rw [hb]
    · exact .ok rfl
    · exact .same s _
  | send ch =>
    refine channelCommand_completes _ ch fun c => ?_
    rcases sendJoined_cases c s with ⟨-, hb⟩ | ⟨-, hb⟩ <;> rw [hb]
    · exact sendCore_failsCleanly c s
    · exact .same s _
  | broadcast => exact absurd rfl hi
  | rxReset ch =>
    refine channelCommand_completes _ ch fun c => ?_
    rcases rxResetCore_cases c s with ⟨-, hb⟩ | ⟨-, hb⟩ <;> rw [hb]
    · exact .ok rfl
    · exact .same s _
  | rxqPop ch =>
    refine channelCommand_completes _ ch fun c => ?_
    rcases rxqPopCore_cases c s with ⟨-, _, _, -, hb⟩ | ⟨-, -, hb⟩ | ⟨-, hb⟩ <;> rw [hb]
    · exact .ok rfl
    · exact .same s _
    · exact .same s _
  | rxfDiscard => exact ⟨(.ok, { s with rxf := s.rxf.discard }), rfl, .ok rfl⟩

/-- Every CMD write completes, with the OP and CH of its word; where the word is not BROADCAST's, it fails cleanly. -/
theorem commandWrite_completes (w : Word) (s : State) :
    ∃ (op : Byte) (ch : BitVec 4) (r : ResultCode × State), commandWrite w s = .next (complete op ch r.1 r.2) ∧
      op.toNat = w.toNat % 256 ∧ ch.toNat = w.toNat / 256 % 16 ∧
      r.2.irqStatus.getLsbD 18 = s.irqStatus.getLsbD 18 ∧ (r.1 ≠ .ok → w ≠ 0x04 → r.2 = s) := by
  rcases commandWrite_cases w s with ⟨i, hi, hc⟩ | ⟨-, -, hc⟩
  · obtain ⟨-, hop, hch⟩ := decode_eq_ok_iff.mp hi
    have hchan : (BitVec.ofNat 4 i.chan).toNat = w.toNat / 256 % 16 := by
      rw [BitVec.toNat_ofNat]
      omega
    by_cases hb : i = .broadcast
    · subst hb
      refine ⟨_, _, broadcastAll s, hc, hop.symm, hchan, ?_, fun _ hw => ?_⟩
      · have hnone : ¬∃ c : Chan, c.val = 18 ∧ (s.chan c).joined = true ∧ (s.chan c).txLen.toNat = 0 :=
          fun ⟨c, hc, _⟩ => by omega
        rw [broadcastAll_irqStatus, decide_eq_false hnone, Bool.or_false]
      · exact absurd ((decode_eq_ok_iff_eq_encode rfl).mp hi) hw
    · obtain ⟨r, hr, hclean⟩ := exec_failsCleanly hb s
      exact ⟨_, _, r, hc.trans hr, hop.symm, hchan, hclean.cmdErr, fun hne _ => hclean.unchanged hne⟩
  · exact ⟨_, _, (.illegal, s), hc, opField_toNat w, chField_toNat w, rfl, fun _ _ => rfl⟩

/-- Channel 0 has an empty message to send, channel 1 a TX_LEN of 257: BROADCAST sends on the one and skips the other. -/
def oneOverlong : State :=
  { State.reset with
    chans := #v[{ Channel.reset with joined := true }, { Channel.reset with joined := true, txLen := 257 },
      Channel.reset, Channel.reset] }

end Sys2Proof.Machine
end

section
/-! The completion of commands, and BROADCAST: O7, O13. -/

namespace Sys2Proof.Machine

open Sys2Proof.Safety

/-- Settles O7: the completion's fields, and the body that fails cleanly. BROADCAST starts
channel 0 and reports channel 1. -/
theorem commandCompletion : Obligations.CommandCompletion := by
  unfold Obligations.CommandCompletion
  refine ⟨fun s w => ?_, oneOverlong, _, exec_broadcast _, by decide, ?_⟩
  · obtain ⟨op, ch, r, hw, hop, hch, herr, hunchanged⟩ := commandWrite_completes w s
    refine ⟨_, r.1, hw, ?_, ?_, fun hne hword => ?_⟩
    · rw [complete_cmdResult, resultWord_eq_resultOf, hop, hch]
    · rw [complete_irqStatus_getLsbD, herr]
      simp
    · rw [hunchanged hne hword, complete_error op ch hne]
      rfl
  · exact fun h => absurd (congrArg (fun v : Vector Channel 4 => v[0].stg) h) (by decide)

/-- Settles O13: the loop's code, channels, flags and frame under the completion. -/
theorem broadcastSendsOnEveryJoinedChannel : Obligations.BroadcastSendsOnEveryJoinedChannel := by
  unfold Obligations.BroadcastSendsOnEveryJoinedChannel
  refine ⟨plainCommand_of_fields rfl rfl (.inr (.inl rfl)), fun s => ?_⟩
  refine ⟨_, (broadcastAll s).1.toByte.toNat, exec_broadcast s, complete_broadcastAll_frame _ s, ?_, ?_,
    fun c hj hl => ?_, fun c hskip => ?_, fun b => ?_⟩
  · rcases broadcastAll_code_cases s with ⟨hex, hcode⟩ | ⟨hex, hcode⟩ <;> rw [hcode]
    · exact iff_of_true rfl hex
    · exact iff_of_false (by decide) hex
  · rcases broadcastAll_code_cases s with ⟨-, hcode⟩ | ⟨-, hcode⟩ <;> rw [hcode]
    · exact .inr rfl
    · exact .inl rfl
  · rw [chan_complete, chan_broadcastAll_of_sends hj hl, startMessage_eq]
  · rw [chan_complete, chan_broadcastAll_of_skips hskip]
  · have herr : (broadcastAll s).1 ≠ .ok ↔ (broadcastAll s).1.toByte.toNat = 0x0A := by
      rcases broadcastAll_code_cases s with ⟨-, hcode⟩ | ⟨-, hcode⟩ <;> rw [hcode] <;> decide
    rw [complete_irqStatus_getLsbD, broadcastAll_irqStatus]
    simp only [herr]

end Sys2Proof.Machine
end

section
/-! SUPPORT. The symbol mapper (spec/41_nco_tx.md R261, R262): the bits of the stream and of a symbol, and what leaves the
active bank of a channel as it is. -/

namespace Sys2Proof.Machine

open Sys2Proof.Safety

/-! ### Bits and symbols -/

theorem streamBit_of_lt (rd : Nat → Byte) {len j : Nat} (h : j < 8 * len) :
    streamBit rd len j = ((rd (j / 8)).getLsbD (7 - j % 8)).toNat := by
  rw [streamBit, if_pos h, BitVec.getLsbD, Nat.toNat_testBit]

theorem streamBit_of_le (rd : Nat → Byte) {len j : Nat} (h : 8 * len ≤ j) : streamBit rd len j = 0 :=
  if_neg (by omega)

/-- The number whose `o` bits, the most significant first, are `b 0` to `b (o - 1)`. -/
def bitsValue (b : Nat → Nat) (o : Nat) : Nat := ((List.range o).map fun t => b t * 2 ^ (o - 1 - t)).sum

theorem symbolAt_eq_bitsValue (rd : Nat → Byte) (len o k : Nat) :
    symbolAt rd len o k = bitsValue (fun t => streamBit rd len (k * o + t)) o := rfl

/-- One more bit is the new least significant one. -/
theorem bitsValue_succ (b : Nat → Nat) (o : Nat) : bitsValue b (o + 1) = 2 * bitsValue b o + b o := by
  have hshift : ∀ t ∈ List.range o, b t * 2 ^ (o + 1 - 1 - t) = 2 * (b t * 2 ^ (o - 1 - t)) := fun t ht => by
    have hexp : o + 1 - 1 - t = o - 1 - t + 1 := by have := List.mem_range.mp ht; omega
    rw [hexp, Nat.pow_succ]
    ring
  rw [bitsValue, List.range_succ, List.map_append, List.sum_append, List.map_congr_left hshift, List.sum_map_mul_left]
  simp [bitsValue]

theorem bitsValue_lt {b : Nat → Nat} (hb : ∀ t, b t < 2) (o : Nat) : bitsValue b o < 2 ^ o := by
  induction o with
  | zero => exact Nat.one_pos
  | succ o ih =>
    have := hb o
    rw [bitsValue_succ, Nat.pow_succ]
    omega

theorem bitsValue_bit {b : Nat → Nat} (hb : ∀ t, b t < 2) {o t : Nat} (ht : t < o) :
    bitsValue b o / 2 ^ (o - 1 - t) % 2 = b t := by
  induction o with
  | zero => omega
  | succ o ih =>
    have hlast := hb o
    rw [bitsValue_succ]
    by_cases hto : t = o
    · have hexp : o + 1 - 1 - t = 0 := by omega
      rw [hexp, Nat.pow_zero, Nat.div_one, hto]
      omega
    · have hexp : o + 1 - 1 - t = o - 1 - t + 1 := by omega
      have hhalf : (2 * bitsValue b o + b o) / 2 = bitsValue b o := by omega
      rw [hexp, Nat.pow_succ', ← Nat.div_div_eq_div_mul, hhalf, ih (by omega)]

/-- A symbol of Order `o` is below 2^o (R262). -/
theorem symbolAt_lt (rd : Nat → Byte) (len o k : Nat) : symbolAt rd len o k < 2 ^ o :=
  bitsValue_lt (fun _ => streamBit_lt _ _ _) o

/-! ### The banks of a channel under commands -/

/-- What decides the bytes of a channel's active bank within a reset epoch: TXB and STG (R60). -/
def banks (ch : Channel) : Memory × Bool := (ch.txb, ch.stg)

theorem activeByte_congr {s t : State} {c : Chan} (hepoch : t.epoch = s.epoch) (h : banks (t.chan c) = banks (s.chan c)) :
    t.activeByte c = s.activeByte c := by
  obtain ⟨htxb, hstg⟩ := Prod.mk.inj h
  funext k
  rw [State.activeByte, State.activeByte, State.txb, State.txb, hepoch, htxb, hstg]

/-- Replacing a channel by one with the same banks leaves the banks of every channel. -/
theorem banks_setChan {s : State} {c : Chan} {ch : Channel} (h : banks ch = banks (s.chan c)) (d : Chan) :
    banks ((s.setChan c ch).chan d) = banks (s.chan d) := by
  by_cases hd : d = c
  · subst hd; rw [chan_setChan_self, h]
  · rw [chan_setChan_of_ne s hd]

/-- A channel command leaves channel `d`'s banks where its body does. -/
theorem banks_channelCommand (op : Byte) (ch : Nat) {s : State} {body : Chan → State → ResultCode × State} {d : Chan}
    (h : ∀ c : Chan, c.val = ch → banks ((body c s).2.chan d) = banks (s.chan d)) :
    banks ((channelCommand op ch s body).chan d) = banks (s.chan d) := by
  rcases chanOperand_cases ch with ⟨hch, -⟩ | ⟨c, rfl, -⟩
  · rw [channelCommand_bad op hch, chan_complete]
  · rw [channelCommand_val, chan_complete, h c rfl]

theorem banks_writeChanReg (ch : Channel) (v : Word) (r : ChanReg) : banks (writeChanReg ch v r) = banks ch := by
  cases r <;> rfl

/-- Of the commands only SEND of a channel and BROADCAST write its banks. -/
theorem exec_banks {i : Instr} {s t : State} (h : exec i s = .next t) {d : Chan} (hsend : i ≠ .send d.val)
    (hbroadcast : i ≠ .broadcast) : banks (t.chan d) = banks (s.chan d) := by
  cases i with
  | nop => cases h; rfl
  | join ch =>
    cases h
    refine banks_channelCommand _ _ fun c _ => ?_
    rcases joinCore_cases c s with ⟨-, hb⟩ | ⟨-, hb⟩ <;> rw [hb]
    exact banks_setChan (by rfl) d
  | leave ch =>
    cases h
    refine banks_channelCommand _ _ fun c _ => ?_
    rcases leaveCore_cases c s with ⟨-, hb⟩ | ⟨-, hb⟩ <;> rw [hb]
    exact banks_setChan (by rfl) d
  | send ch =>
    cases h
    refine banks_channelCommand _ _ fun c hc => ?_
    have hd : d ≠ c := fun e => hsend (by rw [e, hc])
    rcases sendJoined_cases c s with ⟨-, hb⟩ | ⟨-, hb⟩ <;> rw [hb]
    rcases sendCore_cases c s with ⟨-, hs⟩ | ⟨-, hs⟩ <;> rw [hs]
    rw [chan_raise, chan_setChan_of_ne s hd]
  | broadcast => exact absurd rfl hbroadcast
  | rxReset ch =>
    cases h
    refine banks_channelCommand _ _ fun c _ => ?_
    rcases rxResetCore_cases c s with ⟨-, hb⟩ | ⟨-, hb⟩ <;> rw [hb]
    exact banks_setChan (by rfl) d
  | rxqPop ch =>
    cases h
    refine banks_channelCommand _ _ fun c _ => ?_
    rcases rxqPopCore_cases c s with ⟨-, _, _, -, hb⟩ | ⟨-, -, hb⟩ | ⟨-, hb⟩ <;> rw [hb]
    exact banks_setChan (by rfl) d
  | rxfDiscard => cases h; rfl

theorem CommandWrites.epoch_eq {s t : State} (h : CommandWrites s t) : t.epoch = s.epoch := by
  rw [CommandWrites] at h
  rw [h]

/-! ### The active bank under every event -/

/-- A staging-window write leaves the active bank (R120). -/
theorem activeByte_setChan_writeStage (s : State) (d : Chan) (j : Nat) (v : Word) (c : Chan) :
    (s.setChan d (writeStage (s.chan d) j v)).activeByte c = s.activeByte c := by
  by_cases hc : c = d
  · subst hc
    funext k
    simp [State.activeByte, State.txb, writeStage, txbRead_write]
  · exact activeByte_congr rfl (congrArg banks (chan_setChan_of_ne s hc _))

/-- A host access that runs neither SEND of a channel nor BROADCAST leaves its active bank. -/
theorem hostStep_activeByte {op : HostOp} {s t : State} (h : hostStep op s = .next t) {c : Chan}
    (hsend : ¬runsCommand (.host op) (.send c.val)) (hbroadcast : ¬runsCommand (.host op) .broadcast) :
    t.activeByte c = s.activeByte c := by
  rcases hostStep_cases op s with ⟨_, -, -, hs⟩ | ⟨off, v, rfl, hw, hs⟩ | ⟨_, hs⟩
  · cases hs.symm.trans h
    rfl
  · have hwrite := hs.symm.trans h
    generalize hr : regAt (offsetBits off) = r at hwrite
    cases r with
    | cmd =>
      rcases commandWrite_cases v s with ⟨i, hi, hc⟩ | ⟨_, -, hc⟩
      · have hruns : runsCommand (.host (.write off v)) i := ⟨v, cmdWritten_of_regAt v hw hr, hi⟩
        have hexec := hc.symm.trans hwrite
        exact activeByte_congr (exec_commandWrites hexec).epoch_eq
          (exec_banks hexec (fun e => hsend (e ▸ hruns)) (fun e => hbroadcast (e ▸ hruns)))
      · cases hc.symm.trans hwrite
        rfl
    | chan d r => cases hwrite; exact activeByte_congr rfl (banks_setChan (banks_writeChanReg _ v r) c)
    | stageWin d j => cases hwrite; exact activeByte_setChan_writeStage s d j v c
    | _ => cases hwrite; rfl
  · cases hs.symm.trans h

theorem banks_rxPart (x : Sample) (ch : Channel) : banks (rxPart x ch).chan = banks ch := by
  rw [rxPart_frame]
  rfl

theorem banks_txSlot (s : State) (c : Chan) : banks (s.txSlot c).chan = banks (s.chan c) := by
  rw [State.txSlot]
  rcases txPart_cases (s.activeByte c) (s.chan c) with ⟨-, hp⟩ | ⟨-, hp⟩ <;> rw [hp]
  simp [banks, ncoStep]

theorem txStep_activeByte (s : State) (c : Chan) : s.txStep.activeByte c = s.activeByte c := by
  rcases txStep_cases s with ⟨-, hs⟩ | ⟨-, -, hs⟩ | ⟨-, -, hs⟩ <;> rw [hs]
  · exact activeByte_congr rfl (by rw [chan_txProduce, banks_txSlot])
  · exact activeByte_congr rfl (by rw [chan_rxFeed, State.rxSlot, banks_rxPart, chan_txProduce, banks_txSlot])

theorem rxStep_activeByte (s : State) (c : Chan) : s.rxStep.activeByte c = s.activeByte c := by
  rcases rxStep_cases s with ⟨-, hs⟩ | ⟨-, hs⟩ <;> rw [hs]
  exact activeByte_congr rfl (by rw [chan_rxFeed, State.rxSlot, banks_rxPart]; rfl)

/-- No agent's step but SEND of a channel, BROADCAST and reset changes a byte of its active bank (R262). -/
theorem agentStep_activeByte {e : Event} {s t : State} (h : agentStep e s = .next t) (hreset : e ≠ .rstAssert) {c : Chan}
    (hsend : ¬runsCommand e (.send c.val)) (hbroadcast : ¬runsCommand e .broadcast) :
    t.activeByte c = s.activeByte c := by
  cases e with
  | host op => exact hostStep_activeByte h hsend hbroadcast
  | tx => cases h; exact txStep_activeByte s c
  | rx => cases h; exact rxStep_activeByte s c
  | dac => cases h; rw [State.dacStep]; split <;> rfl
  | adc x => cases h; rw [State.adcStep]; split_ifs <;> rfl
  | syncW f v => cases h; cases f <;> rfl
  | syncR f v => cases h; cases f <;> rfl
  | syncEnDac => cases h; rfl
  | syncEnAdc => cases h; rfl
  | syncUnd => cases h; rw [State.syncUnd]; split <;> rfl
  | syncOvf => cases h; rw [State.syncOvf]; split <;> rfl
  | rstAssert => exact absurd rfl hreset
  | rstRelease => cases h; rfl
  | rstOneDomain d => cases h

end Sys2Proof.Machine
end

section
/-! SUPPORT. The NCO step and the play cursor (spec/41_nco_tx.md R263, R270, R271, R276), and the symmetries of the sine
table (R274). -/

namespace Sys2Proof.Machine

open Sys2Proof.Safety

/-! ### A channel's part in a TX sample step -/

theorem playing_iff (ch : Channel) : ch.playing = true ↔ ch.joined = true ∧ ch.txBusy = true := by
  rw [Channel.playing, Bool.and_eq_true]

theorem txPart_of_silent (rd : Nat → Byte) {ch : Channel} (h : ch.joined = false ∨ ch.txBusy = false) :
    txPart rd ch = { sample := 0, chan := ch, done := false } := by
  rcases txPart_cases rd ch with ⟨-, hp⟩ | ⟨hplay, -⟩
  · exact hp
  · obtain ⟨hj, hb⟩ := (playing_iff ch).mp hplay
    rw [hj, hb] at h
    simp at h

theorem txPart_of_playing (rd : Nat → Byte) {ch : Channel} (hj : ch.joined = true) (hb : ch.txBusy = true) :
    txPart rd ch = ncoStep rd ch := if_pos ((playing_iff ch).mpr ⟨hj, hb⟩)

/-- The cursor does not read the phase bank, nor write it. -/
theorem cursorAdvance_phaseAdvance (i : Lane) (ch : Channel) :
    cursorAdvance (phaseAdvance i ch) = { cursorAdvance ch with phase := (phaseAdvance i ch).phase } := by
  by_cases h : ch.txSamp + 1 = ch.pAct
  · exact (if_pos h).trans (by rw [cursorAdvance, if_pos h]; rfl)
  · exact (if_neg h).trans (by rw [cursorAdvance, if_neg h]; rfl)

/-- Outside the phase bank the NCO step of a playing channel is the cursor's (R270). -/
theorem txPart_chan_of_playing (rd : Nat → Byte) {ch : Channel} (hj : ch.joined = true) (hb : ch.txBusy = true) :
    (txPart rd ch).chan = { cursorAdvance ch with phase := (txPart rd ch).chan.phase } := by
  rw [txPart_of_playing rd hj hb]
  exact (cursorAdvance_phaseAdvance _ ch).trans (by simp [ncoStep])

/-- A symbol of an Order that JOIN accepts names an entry of the bank (R262). -/
theorem currentSymbol_lt (rd : Nat → Byte) {ch : Channel} (h : EngineOk ch) : currentSymbol rd ch < 16 :=
  (symbolAt_lt _ _ _ _).trans_le (Nat.pow_le_pow_right (by decide) h.orderHi)

theorem laneOf_of_lt {y : Nat} (h : y < 16) : laneOf y = ⟨y, h⟩ := Fin.ext (Nat.mod_eq_of_lt h)

/-- The table index is the number in the ten most significant bits (R272). -/
theorem lutIndex_eq (phase : Word) : lutIndex phase = phase.toNat / 2 ^ 22 := by
  have := phase.isLt
  rw [lutIndex, BitVec.extractLsb'_toNat, Nat.shiftRight_eq_div_pow]
  omega

/-! ### The cursor (R271) -/

/-- All that cursor_advance does inside a message, in numbers. -/
theorem cursorAdvance_counts {ch : Channel} (h : TxOk ch) (he : EngineOk ch) (hb : ch.txBusy = true) :
    (ch.txSamp.toNat + 1 < ch.pAct.toNat ∧ (cursorAdvance ch).txBusy = true ∧ (cursorAdvance ch).txSym = ch.txSym ∧
      (cursorAdvance ch).txSamp.toNat = ch.txSamp.toNat + 1) ∨
    (ch.txSamp.toNat + 1 = ch.pAct.toNat ∧ ch.txSym.toNat + 1 < nsymTotal ch.actLen.toNat ch.orderAct.toNat ∧
      (cursorAdvance ch).txBusy = true ∧ (cursorAdvance ch).txSym.toNat = ch.txSym.toNat + 1 ∧
      (cursorAdvance ch).txSamp = 0) ∨
    (ch.txSamp.toNat + 1 = ch.pAct.toNat ∧ ch.txSym.toNat + 1 = nsymTotal ch.actLen.toNat ch.orderAct.toNat ∧
      (cursorAdvance ch).txBusy = false ∧ (cursorAdvance ch).txSym.toNat = ch.txSym.toNat + 1 ∧
      (cursorAdvance ch).txSamp = 0) := by
  have hsamp := h.samp hb
  have hsym := h.sym hb
  have hnextSym := h.txSym_succ hb he.orderLo
  have hnextSamp := toNat_succ_of_lt (x := ch.txSamp) (by have := ch.pAct.isLt; omega)
  rw [← hnextSym, ← hnextSamp]
  rcases cursorAdvance_cases ch with ⟨hp, -, hc⟩ | ⟨hp, hn, -, hc⟩ | ⟨hp, hn, -, hc⟩ <;> rw [hc]
  · have hne : (ch.txSamp + 1).toNat ≠ ch.pAct.toNat := fun e => hp (BitVec.eq_of_toNat_eq e)
    exact .inl ⟨by omega, hb, rfl, rfl⟩
  · exact .inr (.inl ⟨congrArg _ hp, by omega, hb, rfl, rfl⟩)
  · exact .inr (.inr ⟨congrArg _ hp, hn, rfl, rfl, rfl⟩)

/-! ### A message from its first sample to its last (R263) -/

/-- `u` is what `k` TX sample steps make of a channel whose message of `n` symbols of `p` samples starts: still playing, with
the cursor at sample `k` of the message, or idle with the cursor at its end. -/
structure PlayedFor (n p k : Nat) (u : Channel) : Prop where
  ok : ChannelOk u
  joined : u.joined = true
  symbols : nsymTotal u.actLen.toNat u.orderAct.toNat = n
  period : u.pAct.toNat = p
  busy : u.txBusy = true ↔ k < n * p
  inside : u.txBusy = true → u.txSym.toNat * p + u.txSamp.toNat = k
  ended : u.txBusy = false → u.txSym.toNat = n ∧ u.txSamp = 0

/-- The channel whose message starts has played 0 samples of it. -/
theorem PlayedFor.start {ch : Channel} (h : ChannelOk ch) (hj : ch.joined = true) (hb : ch.txBusy = true)
    (hsym : ch.txSym = 0) (hsamp : ch.txSamp = 0) :
    PlayedFor (nsymTotal ch.actLen.toNat ch.orderAct.toNat) ch.pAct.toNat 0 ch where
  ok := h
  joined := hj
  symbols := rfl
  period := rfl
  busy := iff_of_true hb (Nat.mul_pos (Nat.zero_lt_of_lt (h.tx.sym hb)) (h.engine hj).period)
  inside := fun _ => by simp [hsym, hsamp]
  ended := fun hno => by simp [hb] at hno

/-- The cursor after one more sample of the message (R271). -/
theorem PlayedFor.cursor {n p k : Nat} {u : Channel} (h : PlayedFor n p k u) (hb : u.txBusy = true) :
    ((cursorAdvance u).txBusy = true ↔ k + 1 < n * p) ∧
    ((cursorAdvance u).txBusy = true → (cursorAdvance u).txSym.toNat * p + (cursorAdvance u).txSamp.toNat = k + 1) ∧
    ((cursorAdvance u).txBusy = false → (cursorAdvance u).txSym.toNat = n ∧ (cursorAdvance u).txSamp = 0) := by
  have hpos := h.inside hb
  have hsym := h.ok.tx.sym hb
  have hcounts := cursorAdvance_counts h.ok.tx (h.ok.engine h.joined) hb
  rw [h.symbols] at hsym hcounts
  rw [h.period] at hcounts
  have hnext : (u.txSym.toNat + 1) * p = u.txSym.toNat * p + p := Nat.succ_mul _ _
  rcases hcounts with ⟨hp, hb', hsym', hsamp'⟩ | ⟨hp, hn, hb', hsym', hsamp'⟩ | ⟨hp, hn, hb', hsym', hsamp'⟩ <;>
    rw [hb', hsym', hsamp']
  · have hroom : (u.txSym.toNat + 1) * p ≤ n * p := Nat.mul_le_mul_right p hsym
    exact ⟨iff_of_true rfl (by omega), fun _ => by omega, nofun⟩
  · have hroom := Nat.mul_lt_mul_of_pos_right hn (show 0 < p by omega)
    exact ⟨iff_of_true rfl (by omega), fun _ => by rw [hnext]; show _ + 0 = k + 1; omega, nofun⟩
  · rw [hn] at hnext
    exact ⟨iff_of_false nofun (by omega), nofun, fun _ => ⟨hn, rfl⟩⟩

/-- One more TX sample step of the channel. -/
theorem PlayedFor.step {n p k : Nat} {u : Channel} (h : PlayedFor n p k u) (rd : Nat → Byte) :
    PlayedFor n p (k + 1) (txPart rd u).chan := by
  have hok := h.ok.txPart rd
  cases hb : u.txBusy with
  | false =>
    have hk : ¬k < n * p := fun hlt => by simp [h.busy.mpr hlt] at hb
    rw [txPart_of_silent rd (.inr hb)]
    exact { h with busy := iff_of_false (by simp [hb]) (by omega), inside := fun g => by simp [hb] at g }
  | true =>
    obtain ⟨ph, hph⟩ : ∃ ph, (txPart rd u).chan = { cursorAdvance u with phase := ph } :=
      ⟨_, txPart_chan_of_playing rd h.joined hb⟩
    rw [hph] at hok ⊢
    obtain ⟨hbusy, hinside, hended⟩ := h.cursor hb
    exact
      { ok := hok
        joined := (cursorAdvance_joined u).trans h.joined
        symbols := by simp [h.symbols]
        period := by simp [h.period]
        busy := hbusy
        inside := hinside
        ended := hended }

/-- Any number of further TX sample steps of the channel. -/
theorem PlayedFor.playSteps {n p k : Nat} {u : Channel} (h : PlayedFor n p k u) (rd : Nat → Byte) (m : Nat) :
    PlayedFor n p (k + m) (Safety.playSteps rd m u) := by
  induction m generalizing k u with
  | zero => exact h
  | succ m ih =>
    have hk : k + (m + 1) = k + 1 + m := by omega
    rw [hk]
    exact ih (h.step rd)

/-- The cursor inside the message (R263). -/
theorem PlayedFor.cursor_inside {n p k : Nat} {u : Channel} (h : PlayedFor n p k u) (hk : k < n * p) :
    u.txBusy = true ∧ u.txSym.toNat = k / p ∧ u.txSamp.toNat = k % p := by
  have hb := h.busy.mpr hk
  have hsamp := h.ok.tx.samp hb
  rw [h.period] at hsamp
  obtain ⟨hdiv, hmod⟩ := (Nat.div_mod_unique (by omega)).mpr
    ⟨(by rw [Nat.mul_comm, Nat.add_comm]; exact h.inside hb : u.txSamp.toNat + p * u.txSym.toNat = k), hsamp⟩
  exact ⟨hb, hdiv.symm, hmod.symm⟩

/-- The cursor after the message (R263). -/
theorem PlayedFor.cursor_ended {n p k : Nat} {u : Channel} (h : PlayedFor n p k u) (hk : n * p ≤ k) :
    u.txBusy = false ∧ u.txSym.toNat = n ∧ u.txSamp = 0 := by
  have hb : u.txBusy = false := Bool.eq_false_iff.mpr fun hb => by have := h.busy.mp hb; omega
  exact ⟨hb, h.ended hb⟩

/-- `NSYM_TOTAL` is the least number of `o`-bit symbols that hold the 8·L bits of the message (R263). -/
theorem nsymTotal_bounds (len : Nat) {o : Nat} (ho : 1 ≤ o) :
    8 * len ≤ o * nsymTotal len o ∧ o * nsymTotal len o < 8 * len + o := by
  have hdiv : o * nsymTotal len o + (8 * len + o - 1) % o = 8 * len + o - 1 := Nat.div_add_mod _ _
  have hmod := Nat.mod_lt (8 * len + o - 1) ho
  omega

/-! ### The sine table (R274) -/

theorem lut_add_512 : ∀ k < 512, lut (k + 512) = -lut k := by decide +kernel

theorem lut_mirror : ∀ k, 1 ≤ k → k < 512 → lut (512 - k) = lut k := by
  have hmirror : ∀ k < 512, 1 ≤ k → lut (512 - k) = lut k := by decide +kernel
  exact fun k h1 h2 => hmirror k h2 h1

/-- Where the table has its maximum. -/
theorem lut_eq_max_iff : ∀ k < 1024, (lut k = 16384 ↔ k = 255 ∨ k = 256 ∨ k = 257) := by decide +kernel

/-- The minimum stands half a turn away from the maximum, by the odd symmetry. -/
theorem lut_eq_min_iff {k : Nat} (hk : k < 1024) : lut k = -16384 ↔ k = 767 ∨ k = 768 ∨ k = 769 := by
  by_cases hhalf : k < 512
  · have hodd := lut_add_512 k hhalf
    have hmax := lut_eq_max_iff (k + 512) (by omega)
    omega
  · obtain ⟨j, rfl⟩ : ∃ j, k = j + 512 := ⟨k - 512, by omega⟩
    have hodd := lut_add_512 j (by omega)
    have hmax := lut_eq_max_iff j (by omega)
    omega

/-- By the odd symmetry each entry of the first half cancels one of the second. -/
theorem sum_lut : ((List.range 1024).map lut).sum = 0 := by
  have hodd : (List.range 512).map (lut ∘ (512 + ·)) = ((List.range 512).map lut).map (-·) := by
    rw [List.map_map]
    exact List.map_congr_left fun k hk => by
      rw [Function.comp_apply, Nat.add_comm, lut_add_512 k (List.mem_range.mp hk), Function.comp_apply]
  rw [show 1024 = 512 + 512 from rfl, List.range_add, List.map_append, List.map_map, List.sum_append, hodd, ← List.sum_neg,
    add_neg_cancel]

end Sys2Proof.Machine
end

section
/-! Waveform synthesis: O18, O19, O20, O22, O23. -/

namespace Sys2Proof.Machine

open Sys2Proof.Safety

/-- Settles O18: the symbol is the number its bits write, and the writers of the banks are SEND, BROADCAST and reset. -/
theorem symbolsAreMsbFirst : Obligations.SymbolsAreMsbFirst := by
  unfold Obligations.SymbolsAreMsbFirst
  refine ⟨fun rd len => ⟨fun j hj => streamBit_of_lt rd hj, fun j hj => streamBit_of_le rd hj, fun o k =>
    ⟨symbolAt_lt rd len o k, fun t ht => bitsValue_bit (fun _ => streamBit_lt _ _ _) ht⟩⟩,
    fun e s t c k h hreset hsend hbroadcast => ?_⟩
  rcases runEvent_next_cases h with ⟨-, -, rfl⟩ | ⟨-, hs⟩
  · rfl
  · exact congrFun (agentStep_activeByte hs hreset hsend hbroadcast) k

/-- Settles O19: the symmetries and the maximum by the table, the minimum and the sum by the odd symmetry. -/
theorem sineTableProperties : Obligations.SineTableProperties := by
  unfold Obligations.SineTableProperties
  exact ⟨lut_add_512, lut_mirror, rfl, rfl, fun k hk => ⟨(lut_bounds_of_lt k hk).2, lut_eq_max_iff k hk⟩,
    fun k hk => ⟨(lut_bounds_of_lt k hk).1, lut_eq_min_iff hk⟩, sum_lut⟩

/-- Settles O20: a playing channel takes the NCO step, whose active entry is that of the symbol. -/
theorem ncoStepAdvancesActiveEntryOnly : Obligations.NcoStepAdvancesActiveEntryOnly := by
  unfold Obligations.NcoStepAdvancesActiveEntryOnly
  intro s c hok hj hb
  have hy := currentSymbol_lt (s.activeByte c) (hok.engine hj)
  have hplay := (playing_iff _).mpr ⟨hj, hb⟩
  have hlane := laneOf_of_lt hy
  have hphase := txPart_phase_getElem (s.activeByte c) (s.chan c)
  have hstep := txPart_of_playing (s.activeByte c) hj hb
  have hsample : (s.txSlot c).sample = amp (s.chan c).phase[currentSymbol (s.activeByte c) (s.chan c)] := by
    rw [State.txSlot, hstep, ncoStep]
    simp only [hlane]
  have hbounds := amp_bounds (s.chan c).phase[currentSymbol (s.activeByte c) (s.chan c)]
  rw [← hsample] at hbounds
  refine ⟨hy, hsample.trans (by rw [amp, lutIndex_eq]; rfl), hbounds.1, hbounds.2, ?_, fun j hne => ?_,
    txPart_chan_of_playing _ hj hb, by rw [State.txSlot, hstep]; rfl⟩
  · have hactive := (hphase ⟨_, hy⟩).trans (if_pos ⟨hplay, hlane.symm⟩)
    exact (congrArg BitVec.toNat hactive).trans (BitVec.toNat_add ..)
  · exact (hphase j).trans (if_neg fun ⟨_, hi⟩ => hne (by rw [hi, hlane]; rfl))

/-- Settles O22: by induction on the steps, the cursor is at sample `k` of the message until it is at its end. -/
theorem messageLastsSymbolsTimesPeriod : Obligations.MessageLastsSymbolsTimesPeriod := by
  unfold Obligations.MessageLastsSymbolsTimesPeriod
  refine ⟨fun len o ho _ hlen => ?_, by decide, by decide, by decide, fun rd ch hok hj hb hsym hsamp => ?_⟩
  · obtain ⟨hlo, hhi⟩ := nsymTotal_bounds len ho
    exact ⟨hlo, hhi, nsymTotal_le hlen ho⟩
  · have hplayed : ∀ k, PlayedFor _ _ k (playSteps rd k ch) := fun k =>
      Nat.zero_add k ▸ (PlayedFor.start hok hj hb hsym hsamp).playSteps rd k
    exact ⟨fun k hk => (hplayed k).cursor_inside hk, fun k hk => (hplayed k).cursor_ended hk⟩

/-- Settles O23: the part of a silent channel is 0 and the channel itself, and a received sample writes none of the three. -/
theorem silentChannelContributesZero : Obligations.SilentChannelContributesZero := by
  unfold Obligations.SilentChannelContributesZero
  intro s c hsilent
  have hslot : s.txSlot c = { sample := 0, chan := s.chan c, done := false } := txPart_of_silent _ hsilent
  refine ⟨by rw [hslot], fun t h => ?_⟩
  rcases runEvent_next_cases h with ⟨-, -, rfl⟩ | ⟨-, hs⟩
  · exact ⟨rfl, rfl, rfl⟩
  cases hs
  rcases txStep_cases s with ⟨-, hx⟩ | ⟨-, -, hx⟩ | ⟨-, -, hx⟩ <;> rw [hx]
  · exact ⟨rfl, rfl, rfl⟩
  · rw [chan_txProduce, hslot]
    exact ⟨rfl, rfl, rfl⟩
  · rw [chan_rxFeed, State.rxSlot, chan_txProduce, hslot, rxPart_frame]
    exact ⟨rfl, rfl, rfl⟩

end Sys2Proof.Machine
end

section
/-! SUPPORT. The correlator step part by part (spec/42_correlator_rx.md): the exact sum of a lane, the lane a decision takes,
the bits a symbol appends, and the sample a step hands to the frame. -/

namespace Sys2Proof.Machine

open Sys2Proof.Safety

/-! ### The accumulation (R300) -/

/-- A sample against an entry of the LUT (R70). -/
theorem natAbs_mul_amp_le (x : Sample) (ref : Word) : (x.toInt * amp ref).natAbs ≤ 32768 * 16384 := by
  have hx : x.toInt.natAbs ≤ 32768 := by have := x.toInt_lt; have := x.le_toInt; omega
  have ha : (amp ref).natAbs ≤ 16384 := by have := amp_bounds ref; omega
  rw [Int.natAbs_mul]
  exact Nat.mul_le_mul hx ha

/-- The sum of a lane is exact while its samples are fewer than a window has (R70, R300). -/
theorem toInt_accStep (x : Sample) (acc : Acc) (ref : Word) {n : Nat} (hn : n < 65535)
    (h : acc.toInt.natAbs ≤ n * (32768 * 16384)) : (accStep x acc ref).toInt = acc.toInt + x.toInt * amp ref := by
  have hprod := natAbs_mul_amp_le x ref
  rw [accStep, BitVec.toInt_ofInt_eq_self (by decide)] <;> omega

/-- The accumulation writes the two banks and the two counters, and nothing else of the channel. -/
theorem correlate_frame (x : Sample) (ch : Channel) :
    correlate x ch = { ch with
      rx := { ch.rx with
        acc := (correlate x ch).rx.acc, ref := (correlate x ch).rx.ref, winN := (correlate x ch).rx.winN,
        chunkCnt := (correlate x ch).rx.chunkCnt } } := by
  simp only [correlate]

/-! ### The decision (R301) -/

/-- Lane `b` is the lowest of the first `n` lanes whose magnitude none of them exceeds. -/
structure LowestLargest (ch : Channel) (n b : Nat) : Prop where
  bound : b < n
  largest : ∀ i, i < n → accMag ch i ≤ accMag ch b
  lowest : ∀ i, i < b → accMag ch i < accMag ch b

/-- The comparison with one more lane keeps the lowest largest lane. -/
theorem LowestLargest.betterLane {ch : Channel} {n b : Nat} (h : LowestLargest ch n b) :
    LowestLargest ch (n + 1) (Machine.betterLane ch b n) := by
  obtain ⟨hbound, hlargest, hlowest⟩ := h
  rw [Machine.betterLane]
  split
  · next hbetter =>
    have hall : ∀ i, i < n → accMag ch i < accMag ch n := fun i hi => (hlargest i hi).trans_lt hbetter
    exact ⟨Nat.lt_succ_self n, Nat.forall_lt_succ_right.mpr ⟨fun i hi => (hall i hi).le, le_rfl⟩, hall⟩
  · next hworse =>
    exact ⟨Nat.lt_succ_of_lt hbound, Nat.forall_lt_succ_right.mpr ⟨hlargest, Nat.le_of_not_lt hworse⟩, hlowest⟩

/-- The comparisons of R301 over a bank of at least one lane find the lowest largest lane. -/
theorem lowestLargest_foldl (ch : Channel) (n : Nat) :
    LowestLargest ch (n + 1) ((List.range (n + 1)).foldl (betterLane ch) 0) := by
  induction n with
  | zero =>
    have hfirst : (List.range 1).foldl (betterLane ch) 0 = 0 := ite_self _
    rw [hfirst]
    exact ⟨Nat.one_pos, fun i hi => by rw [Nat.lt_one_iff.mp hi], fun i hi => absurd hi (Nat.not_lt_zero i)⟩
  | succ n ih =>
    rw [List.range_succ, List.foldl_append]
    exact ih.betterLane

/-- The decided symbol is the lowest largest of the K lanes. -/
theorem lowestLargest_decideSymbol {ch : Channel} (ho : ch.orderAct.toNat ≤ 4) :
    LowestLargest ch (2 ^ ch.orderAct.toNat) (decideSymbol ch) := by
  have hbank : 2 ^ ch.orderAct.toNat ≤ 16 := Nat.pow_le_pow_right (by decide) ho
  obtain ⟨n, hn⟩ := Nat.exists_eq_succ_of_ne_zero (Nat.two_pow_pos ch.orderAct.toNat).ne'
  rw [decideSymbol, min_eq_right hbank, hn]
  exact lowestLargest_foldl ch n

theorem accMag_lane (ch : Channel) (i : Lane) : accMag ch i.val = ch.rx.acc[i.val].toInt.natAbs := dif_pos i.isLt

/-! ### The assembled stream (R305) -/

/-- OR-ing a bit into a place of the buffer. -/
theorem asmBit_setAsmBit_self (rx : RxState) {j b : Nat} (hj : j < 256) (hb : b < 2) :
    asmBit { rx with asm := setAsmBit rx.asm j b } j = (asmBit rx j || decide (b = 1)) := by
  have hj32 : j / 8 < 32 := by omega
  have hbit : (BitVec.ofNat 8 (b * 2 ^ (7 - j % 8))).getLsbD (7 - j % 8) = decide (b = 1) := by
    have hwidth : 7 - j % 8 < 8 := by omega
    rcases (by omega : b = 0 ∨ b = 1) with rfl | rfl
    · simp
    · rw [Nat.one_mul, BitVec.getLsbD_ofNat, Nat.testBit_two_pow_self, decide_eq_true hwidth]; rfl
  simp only [asmBit, setAsmBit, dif_pos hj32, Vector.getElem?_set_self hj32, Vector.getElem?_eq_getElem hj32,
    Option.getD_some, BitVec.getLsbD_or, hbit]

/-- The receive state once the first `m` bits of symbol `s` of Order `o` are OR-ed in from bit `n` on. -/
def withBits (rx : RxState) (s o n m : Nat) : RxState :=
  { rx with asm := (List.range m).foldl (fun a t => setAsmBit a (n + t) (symbolBit s o t)) rx.asm }

theorem asmBit_assemble (y : Nat) (ch : Channel) (j : Nat) :
    asmBit (assemble y ch).rx j =
      asmBit (withBits ch.rx y ch.orderAct.toNat ch.rx.nbits.toNat ch.orderAct.toNat) j := rfl

theorem withBits_succ (rx : RxState) (s o n m : Nat) :
    withBits rx s o n (m + 1) =
      { withBits rx s o n m with asm := setAsmBit (withBits rx s o n m).asm (n + m) (symbolBit s o m) } := by
  simp only [withBits, List.range_succ, List.foldl_append, List.foldl_cons, List.foldl_nil]

/-- The bits below the first one written stay. -/
theorem asmBit_withBits_of_lt (rx : RxState) (s o m : Nat) {n k : Nat} (hk : k < n) :
    asmBit (withBits rx s o n m) k = asmBit rx k := by
  induction m with
  | zero => rfl
  | succ m ih =>
    rw [withBits_succ, asmBit_setAsmBit_of_ne _ (symbolBit_lt s o m) (by omega)]
    exact ih

/-- The bits after the last one written stay. -/
theorem asmBit_withBits_of_le (rx : RxState) (s o : Nat) {n m k : Nat} (hk : n + m ≤ k) :
    asmBit (withBits rx s o n m) k = asmBit rx k :=
  asmBit_foldl_setAsmBit_of_le rx s o n m hk

/-- Where the stream was 0, it holds the bits of the symbol. -/
theorem asmBit_withBits_add {rx : RxState} {n m : Nat} (s o : Nat) (hfit : n + m ≤ 256)
    (hzeros : ∀ j, n ≤ j → asmBit rx j = false) {t : Nat} (ht : t < m) :
    asmBit (withBits rx s o n m) (n + t) = decide (symbolBit s o t = 1) := by
  induction m with
  | zero => exact absurd ht (Nat.not_lt_zero t)
  | succ m ih =>
    rw [withBits_succ]
    by_cases hlast : t = m
    · subst hlast
      have hbefore : asmBit (withBits rx s o n t) (n + t) = false :=
        (asmBit_withBits_of_le rx s o le_rfl).trans (hzeros _ (by omega))
      rw [asmBit_setAsmBit_self _ (by omega) (symbolBit_lt s o t), hbefore, Bool.false_or]
    · rw [asmBit_setAsmBit_of_ne _ (symbolBit_lt s o m) (by omega)]
      exact ih (by omega) (by omega)

theorem assemble_nbits_toNat (y : Nat) {ch : Channel} (h : ch.rx.nbits.toNat + ch.orderAct.toNat ≤ 256) :
    (assemble y ch).rx.nbits.toNat = ch.rx.nbits.toNat + ch.orderAct.toNat := by
  have ho : (BitVec.ofNat 9 ch.orderAct.toNat).toNat = ch.orderAct.toNat := Nat.mod_eq_of_lt (by omega)
  have hsum := BitVec.toNat_add_of_lt (x := ch.rx.nbits) (y := BitVec.ofNat 9 ch.orderAct.toNat) (by omega)
  exact hsum.trans (congrArg _ ho)

/-! ### The frame and the chunk (R320) -/

theorem windowCheck_rx_framePos (ch : Channel) : (windowCheck ch).rx.framePos = ch.rx.framePos := by
  rcases windowCheck_cases ch with ⟨-, hc⟩ | ⟨-, hc⟩ <;> rw [hc]
  exact symbolDecide_rx_framePos ch

theorem windowCheck_rx_chunkCnt (ch : Channel) : (windowCheck ch).rx.chunkCnt = ch.rx.chunkCnt := by
  rcases windowCheck_cases ch with ⟨-, hc⟩ | ⟨-, hc⟩ <;> rw [hc]
  exact symbolDecide_rx_chunkCnt ch

theorem frameAdvance_of_inside {ch : Channel} (h : ch.rx.framePos.toNat + 1 ≠ ch.frameAct.toNat)
    (hfit : ch.rx.framePos.toNat + 1 < 2 ^ 16) :
    frameAdvance ch =
      { chan := { ch with rx := { ch.rx with framePos := ch.rx.framePos + 1 } }, msg := false, drop := false } := by
  have hne : ch.rx.framePos + 1 ≠ ch.frameAct := fun e => h (e ▸ toNat_succ_of_lt hfit).symm
  rcases frameAdvance_cases ch with ⟨-, hf⟩ | ⟨he, -⟩ | ⟨he, -⟩
  · exact hf
  · exact absurd he hne
  · exact absurd he hne

/-- At a frame end the number of samples of the chunk decides. -/
theorem frameAdvance_of_frameEnd {ch : Channel} (h : ch.rx.framePos.toNat + 1 = ch.frameAct.toNat) :
    (ch.rx.chunkCnt.toNat < 4 * ch.pAct.toNat ∧ frameAdvance ch =
      { chan := { ch with rx := { ch.rx with framePos := 0 } }, msg := false, drop := false }) ∨
    (4 * ch.pAct.toNat ≤ ch.rx.chunkCnt.toNat ∧
      frameAdvance ch = flush { ch with rx := { ch.rx with framePos := 0 } }) := by
  have hlast : ch.rx.framePos + 1 = ch.frameAct :=
    BitVec.eq_of_toNat_eq ((toNat_succ_of_lt (h ▸ ch.frameAct.isLt)).trans h)
  rcases frameAdvance_cases ch with ⟨hne, -⟩ | ⟨-, hf⟩ | ⟨-, hf⟩
  · exact absurd hlast hne
  · exact .inl hf
  · exact .inr hf

theorem flush_rx (ch : Channel) : (flush ch).chan.rx = RxState.clear := by
  rcases flush_cases ch with ⟨-, hf⟩ | ⟨-, hf⟩ <;> rw [hf]

/-- A flush reports its message as queued or as dropped. -/
theorem flush_reports (ch : Channel) : (flush ch).msg = true ∨ (flush ch).drop = true := by
  rcases flush_cases ch with ⟨-, hf⟩ | ⟨-, hf⟩ <;> rw [hf]
  · exact .inl rfl
  · exact .inr rfl

/-- R320 of a step that answers `u`: its sample is at place `fp` of a frame of `f` samples, and with it the chunk holds `n`
samples, a symbol lasting `p`. -/
structure FrameStep (fp f n p : Nat) (u : RxSlot) : Prop where
  flushes : (u.msg = true ∨ u.drop = true) ↔ fp + 1 = f ∧ 4 * p ≤ n
  restarts : fp + 1 = f → u.chan.rx.framePos.toNat = 0
  counts : fp + 1 ≠ f → u.chan.rx.framePos.toNat = fp + 1
  clears : fp + 1 = f ∧ 4 * p ≤ n → u.chan.rx = RxState.clear
  keeps : ¬(fp + 1 = f ∧ 4 * p ≤ n) → u.chan.rx.chunkCnt.toNat = n

theorem frameStep_frameAdvance {ch : Channel} (h : ch.rx.framePos.toNat < ch.frameAct.toNat) :
    FrameStep ch.rx.framePos.toNat ch.frameAct.toNat ch.rx.chunkCnt.toNat ch.pAct.toNat (frameAdvance ch) := by
  by_cases hend : ch.rx.framePos.toNat + 1 = ch.frameAct.toNat
  · rcases frameAdvance_of_frameEnd hend with ⟨hshort, hf⟩ | ⟨hfull, hf⟩ <;> rw [hf]
    · have hno : ¬(ch.rx.framePos.toNat + 1 = ch.frameAct.toNat ∧ 4 * ch.pAct.toNat ≤ ch.rx.chunkCnt.toNat) := by omega
      exact ⟨by simp [hno], fun _ => rfl, fun hne => absurd hend hne, fun hyes => absurd hyes hno, fun _ => rfl⟩
    · have hrx := flush_rx { ch with rx := { ch.rx with framePos := 0 } }
      exact ⟨iff_of_true (flush_reports _) ⟨hend, hfull⟩, fun _ => by rw [hrx]; rfl, fun hne => absurd hend hne,
        fun _ => hrx, fun hno => absurd ⟨hend, hfull⟩ hno⟩
  · have hfit : ch.rx.framePos.toNat + 1 < 2 ^ 16 := (Nat.succ_le_of_lt h).trans_lt ch.frameAct.isLt
    rw [frameAdvance_of_inside hend hfit]
    exact ⟨by simp [hend], fun he => absurd he hend, fun _ => toNat_succ_of_lt hfit, fun ⟨he, _⟩ => absurd he hend,
      fun _ => rfl⟩

/-- A correlator step advances the frame with its sample counted in the chunk (R300). -/
theorem frameStep_correlatorStep {ch : Channel} (hok : ChannelOk ch) (hj : ch.joined = true) (x : Sample) :
    FrameStep ch.rx.framePos.toNat ch.frameAct.toNat (ch.rx.chunkCnt.toNat + 1) ch.pAct.toNat (correlatorStep x ch) := by
  have hrx := hok.rx hj
  obtain ⟨-, hcnt⟩ := hrx.correlate_counters (hok.engine hj) x
  have hstep := frameStep_frameAdvance (ch := windowCheck (correlate x ch))
  simp only [windowCheck_rx_framePos, correlate_rx_framePos, windowCheck_frameAct, correlate_frameAct,
    windowCheck_rx_chunkCnt, hcnt, windowCheck_pAct, correlate_pAct] at hstep
  exact hstep hrx.frame

end Sys2Proof.Machine
end

section
/-! Correlation detection: O27, O28, O29, O30. -/

namespace Sys2Proof.Machine

open Sys2Proof.Safety

/-- Settles O27: no lane's sum and no counter leaves its width, by the channel invariant. -/
theorem correlatorAccumulatesExactly : Obligations.CorrelatorAccumulatesExactly := by
  unfold Obligations.CorrelatorAccumulatesExactly
  intro x ch hok hj
  have hrx := hok.rx hj
  obtain ⟨hwin, hcnt⟩ := hrx.correlate_counters (hok.engine hj) x
  have hsamples : ch.rx.winN.toNat < 65535 := by
    have := hrx.window
    have := ch.pAct.isLt
    omega
  refine ⟨fun i hi => ⟨?_, ?_⟩, fun i hi => ?_, hwin, hcnt, correlate_frame x ch, fun hfull => ?_, fun hopen => ?_⟩
  · rw [correlate_rx_acc, if_pos hi, toInt_accStep x _ _ hsamples (hrx.acc i), amp, lutIndex_eq]
  · rw [correlate_rx_ref, if_pos hi, BitVec.toNat_add]
  · rw [correlate_rx_acc, correlate_rx_ref, if_neg (Nat.not_lt.mpr hi), if_neg (Nat.not_lt.mpr hi)]
    exact hrx.unused i hi
  · have hdecided : (correlate x ch).rx.winN = (correlate x ch).pAct :=
      BitVec.eq_of_toNat_eq (by rw [hwin, hfull, correlate_pAct])
    rw [correlatorStep, windowCheck, if_pos hdecided]
  · have hwaits : (correlate x ch).rx.winN ≠ (correlate x ch).pAct := fun e => by
      rw [correlate_pAct] at e
      exact hopen.ne (hwin.symm.trans (congrArg BitVec.toNat e))
    rw [correlatorStep, windowCheck, if_neg hwaits]

/-- Settles O28: the comparisons keep the lowest largest lane of those compared, by induction on the lanes. -/
theorem lowestLaneWinsTies : Obligations.LowestLaneWinsTies := by
  unfold Obligations.LowestLaneWinsTies
  intro ch _ ho
  obtain ⟨hbound, hlargest, hlowest⟩ := lowestLargest_decideSymbol ho
  exact ⟨hbound, fun i hi => accMag_lane ch i ▸ hlargest i.val hi, fun i hi => accMag_lane ch i ▸ hlowest i.val hi,
    fun i => ⟨symbolDecide_rx_acc ch i, symbolDecide_rx_ref ch i⟩, symbolDecide_rx_winN ch, rfl, rfl, rfl⟩

/-- Settles O29: the bits are OR-ed in one by one, each into a place that was 0 and that no later one touches. -/
theorem assembleAppendsMsbFirst : Obligations.AssembleAppendsMsbFirst := by
  unfold Obligations.AssembleAppendsMsbFirst
  intro y ch hfit hzeros
  refine ⟨assemble_nbits_toNat y hfit, fun t ht => ?_, fun j hj => ?_, rfl⟩ <;> rw [asmBit_assemble]
  · exact asmBit_withBits_add y _ hfit hzeros ht
  · rcases hj with hbelow | habove
    · exact asmBit_withBits_of_lt ch.rx y _ _ hbelow
    · exact asmBit_withBits_of_le ch.rx y _ habove

/-- Settles O30: the three cases of the frame, and the same for a correlator step, whose sample the chunk has counted. -/
theorem chunkTestAtFrameEnds : Obligations.ChunkTestAtFrameEnds := by
  unfold Obligations.ChunkTestAtFrameEnds
  refine ⟨fun ch => ⟨fun hinside => ?_, fun hend hshort => ?_, fun hend hfull => ?_⟩, fun x ch hok hj => ?_⟩
  · have hfit : ch.rx.framePos.toNat + 1 < 2 ^ 16 := hinside.trans ch.frameAct.isLt
    exact ⟨_, frameAdvance_of_inside hinside.ne hfit, rfl, rfl, toNat_succ_of_lt hfit, rfl⟩
  · rcases frameAdvance_of_frameEnd hend with ⟨-, hf⟩ | ⟨hfull, -⟩
    · exact hf
    · omega
  · rcases frameAdvance_of_frameEnd hend with ⟨hshort, -⟩ | ⟨-, hf⟩
    · omega
    · exact hf
  · obtain ⟨hflushes, hrestarts, hcounts, hclears, hkeeps⟩ := frameStep_correlatorStep hok hj x
    exact ⟨hflushes, hrestarts, hcounts, hclears, hkeeps⟩

end Sys2Proof.Machine
end

section
/-! SUPPORT. The sample steps (spec/43_mixer_step.md R350 to R356): the mix as a saturated sum, the flags a step raises for
each channel, and when a step is enabled. -/

namespace Sys2Proof.Machine

/-! ### The mix (R352) -/

theorem sat16_eq_ite (v : Int) : sat16 v = if v < -32768 then -32768 else if 32767 < v then 32767 else v := by
  rw [sat16]
  split_ifs <;> omega

/-- A sum that fits 16 bits is not saturated. -/
theorem sat16_of_fits {v : Int} (hlo : -32768 ≤ v) (hhi : v ≤ 32767) : sat16 v = v := by
  rw [sat16, max_eq_left hlo, min_eq_left hhi]

theorem txSlot_sample_of_not_playing {s : State} {c : Chan} (h : (s.chan c).playing = false) :
    (s.txSlot c).sample = 0 := by
  rw [State.txSlot, txPart, h]
  rfl

/-- A channel contributes silence or an amplitude (R351). -/
theorem txSlot_sample_bounds (s : State) (c : Chan) : -16384 ≤ (s.txSlot c).sample ∧ (s.txSlot c).sample ≤ 16384 := by
  rcases txPart_cases (s.activeByte c) (s.chan c) with ⟨hsilent, -⟩ | ⟨-, hp⟩
  · rw [txSlot_sample_of_not_playing hsilent]
    decide
  · rw [State.txSlot, hp]
    exact amp_bounds _

theorem mixed_eq_sat16_sum (s : State) : s.mixed = sat16 (∑ c : Chan, (s.txSlot c).sample) := by
  rw [Fin.sum_univ_four, State.mixed]

/-- With at most one channel playing the sum is that channel's contribution. -/
theorem sum_sample_of_one_playing {s : State} {c : Chan} (h : ∀ d : Chan, d ≠ c → (s.chan d).playing = false) :
    ∑ d : Chan, (s.txSlot d).sample = (s.txSlot c).sample :=
  Fintype.sum_eq_single c fun d hd => txSlot_sample_of_not_playing (h d hd)

/-- With at most two channels playing the sum is that of their two contributions. -/
theorem sum_sample_of_two_playing {s : State} {c d : Chan} (hne : c ≠ d)
    (h : ∀ e : Chan, e ≠ c → e ≠ d → (s.chan e).playing = false) :
    ∑ e : Chan, (s.txSlot e).sample = (s.txSlot c).sample + (s.txSlot d).sample :=
  Fintype.sum_eq_add c d hne fun e he => txSlot_sample_of_not_playing (h e he.1 he.2)

/-! ### One flag for each channel (R440) -/

theorem foldl_or_flag_getLsbD (flag : Chan → Word) (p : Chan → Bool) (cs : List Chan) (w : Word) (b : Nat) :
    (cs.foldl (fun acc c => if p c then acc ||| flag c else acc) w).getLsbD b =
      (w.getLsbD b || cs.any fun c => p c && (flag c).getLsbD b) := by
  induction cs generalizing w with
  | nil => simp
  | cons c cs ih =>
    rw [List.foldl_cons, ih, List.any_cons]
    cases p c
    · simp
    · simp [Bool.or_assoc]

/-- Flags that lie in the bits `n` to `n + 3`, channel by channel: which of them are set. -/
theorem chanBits_getLsbD {flag : Chan → Word} {n : Nat} (hflag : ∀ c, flag c = bit (n + c.val)) (hn : n + 3 < 32)
    (p : Chan → Bool) (b : Nat) :
    (chanBits flag p).getLsbD b = decide (∃ c : Chan, p c = true ∧ b = n + c.val) := by
  have hbit (c : Chan) : (flag c).getLsbD b = decide (b = n + c.val) := by
    rw [hflag, bit_getLsbD (by omega)]
  rw [chanBits, foldl_or_flag_getLsbD, BitVec.ofNat_eq_ofNat, BitVec.getLsbD_zero, Bool.false_or, Bool.eq_iff_iff]
  simp only [List.any_eq_true, mem_allChans, true_and, hbit, Bool.and_eq_true, decide_eq_true_eq]

theorem chanBits_getLsbD_self {flag : Chan → Word} {n : Nat} (hflag : ∀ c, flag c = bit (n + c.val)) (hn : n + 3 < 32)
    (p : Chan → Bool) (c : Chan) : (chanBits flag p).getLsbD (n + c.val) = p c := by
  have honly : (∃ d : Chan, p d = true ∧ n + c.val = n + d.val) ↔ p c = true :=
    ⟨fun ⟨d, hd, hcd⟩ => Fin.ext (Nat.add_left_cancel hcd) ▸ hd, fun hc => ⟨c, hc, rfl⟩⟩
  rw [chanBits_getLsbD hflag hn, Bool.eq_iff_iff, decide_eq_true_eq, honly]

theorem chanBits_getLsbD_outside {flag : Chan → Word} {n b : Nat} (hflag : ∀ c, flag c = bit (n + c.val))
    (hn : n + 3 < 32) (p : Chan → Bool) (hb : b < n ∨ n + 4 ≤ b) : (chanBits flag p).getLsbD b = false := by
  rw [chanBits_getLsbD hflag hn, decide_eq_false_iff_not]
  rintro ⟨c, -, hc⟩
  omega

/-! ### The flags of a sample step (R350, R356) -/

theorem txDoneBit_eq (c : Chan) : txDoneBit c = bit (0 + c.val) := by rw [txDoneBit, Nat.zero_add]

theorem rxMsgBit_eq (c : Chan) : rxMsgBit c = bit (4 + c.val) := rfl

theorem rxqDropBit_eq (c : Chan) : rxqDropBit c = bit (8 + c.val) := rfl

theorem txProduce_txDone (s : State) (c : Chan) :
    s.txProduce.irqStatus.getLsbD c.val = (s.irqStatus.getLsbD c.val || (s.txSlot c).done) := by
  have hdone := chanBits_getLsbD_self txDoneBit_eq (by decide) (fun c => (s.txSlot c).done) c
  rw [Nat.zero_add] at hdone
  rw [txProduce_irqStatus, BitVec.getLsbD_or, hdone]

/-- Producing a sample raises no flag but TX_DONE. -/
theorem txProduce_irqStatus_of_le (s : State) {b : Nat} (hb : 4 ≤ b) :
    s.txProduce.irqStatus.getLsbD b = s.irqStatus.getLsbD b := by
  rw [txProduce_irqStatus, BitVec.getLsbD_or, chanBits_getLsbD_outside txDoneBit_eq (by decide) _ (.inr hb), Bool.or_false]

theorem rxFeed_rxMsg (s : State) (x : Sample) (c : Chan) :
    (s.rxFeed x).irqStatus.getLsbD (4 + c.val) = (s.irqStatus.getLsbD (4 + c.val) || (s.rxSlot x c).msg) := by
  rw [rxFeed_irqStatus, BitVec.getLsbD_or, BitVec.getLsbD_or, chanBits_getLsbD_self rxMsgBit_eq (by decide),
    chanBits_getLsbD_outside rxqDropBit_eq (by decide) _ (.inl (by omega)), Bool.or_false]

theorem rxFeed_rxqDrop (s : State) (x : Sample) (c : Chan) :
    (s.rxFeed x).irqStatus.getLsbD (8 + c.val) = (s.irqStatus.getLsbD (8 + c.val) || (s.rxSlot x c).drop) := by
  rw [rxFeed_irqStatus, BitVec.getLsbD_or, BitVec.getLsbD_or,
    chanBits_getLsbD_outside rxMsgBit_eq (by decide) _ (.inr (by omega)),
    chanBits_getLsbD_self rxqDropBit_eq (by decide), Bool.false_or]

/-- Receiving a sample raises no flag but RX_MSG and RXQ_DROP. -/
theorem rxFeed_irqStatus_outside (s : State) (x : Sample) {b : Nat} (hb : b < 4 ∨ 12 ≤ b) :
    (s.rxFeed x).irqStatus.getLsbD b = s.irqStatus.getLsbD b := by
  rw [rxFeed_irqStatus, BitVec.getLsbD_or, BitVec.getLsbD_or,
    chanBits_getLsbD_outside rxMsgBit_eq (by decide) _ (by omega),
    chanBits_getLsbD_outside rxqDropBit_eq (by decide) _ (by omega), Bool.or_false, Bool.or_false]

/-! ### When a step is enabled -/

theorem txEnabled_iff (s : State) : s.txEnabled = true ↔ s.en = true ∧ (s.txf.w - s.txf.viewR).toNat < 64 := by
  rw [State.txEnabled, Bool.and_eq_true, decide_eq_true_eq, Fifo.writerLevel]

theorem rxEnabled_iff (s : State) :
    s.rxEnabled = true ↔ s.en = true ∧ s.loopback = false ∧ 0 < (s.rxf.viewW - s.rxf.r).toNat := by
  rw [State.rxEnabled, Bool.and_eq_true, Bool.and_eq_true, decide_eq_true_eq, Bool.not_eq_true', and_assoc,
    Fifo.readerLevel]

theorem txStep_of_waits {s : State} (h : s.en = false ∨ 64 ≤ (s.txf.w - s.txf.viewR).toNat) : s.txStep = s := by
  have hoff : ¬s.txEnabled = true := by
    rw [txEnabled_iff]
    rintro ⟨hen, hroom⟩
    exact h.elim (fun hdis => Bool.noConfusion (hen.symm.trans hdis)) hroom.not_ge
  rw [State.txStep, if_neg hoff]

theorem rxStep_of_waits {s : State} (h : s.en = false ∨ s.loopback = true ∨ s.rxf.viewW = s.rxf.r) : s.rxStep = s := by
  have hoff : ¬s.rxEnabled = true := by
    rw [rxEnabled_iff]
    rintro ⟨hen, hl, hdata⟩
    rcases h with hdis | hloop | hempty
    · exact Bool.noConfusion (hen.symm.trans hdis)
    · exact Bool.noConfusion (hl.symm.trans hloop)
    · rw [hempty, BitVec.sub_self] at hdata
      exact absurd hdata (by decide)
  rw [State.rxStep, if_neg hoff]

end Sys2Proof.Machine
end

section
/-! The mixer and the sample steps: O24, O25, O33. -/

namespace Sys2Proof.Machine

/-- Settles O24: the mix is one saturated sum; one contribution fits 16 bits, and two do unless both are at the maximum. -/
theorem mixerSaturatesTheSum : Obligations.MixerSaturatesTheSum := by
  unfold Obligations.MixerSaturatesTheSum
  intro s t m
  have hbounds (c : Chan) : -16384 ≤ t c ∧ t c ≤ 16384 := txSlot_sample_bounds s c
  have hm : -65536 ≤ m ∧ m ≤ 65536 := by
    have := hbounds 0
    have := hbounds 1
    have := hbounds 2
    have := hbounds 3
    omega
  refine ⟨sat16_eq_ite m, hbounds, hm.1, hm.2, fun c hone => ?_, fun c d hne htwo => ?_⟩
  · have := hbounds c
    rw [mixed_eq_sat16_sum, sum_sample_of_one_playing hone]
    exact sat16_of_fits (v := t c) (by omega) (by omega)
  · have hc := hbounds c
    have hd := hbounds d
    rw [mixed_eq_sat16_sum, sum_sample_of_two_playing hne htwo]
    split
    · next hpeak => exact (congrArg sat16 hpeak).trans (by decide)
    · exact sat16_of_fits (v := t c + t d) (by omega) (by omega)

/-- Settles O25: an enabled step produces the mix, and in loopback feeds it to the channels that have produced it. -/
theorem txSampleStep : Obligations.TxSampleStep := by
  unfold Obligations.TxSampleStep
  intro s hr
  have hrun : runEvent .tx s = .next s.txStep := runEvent_runs .tx s (.inl hr)
  refine ⟨fun hen hroom => ⟨s.txStep, hrun, ?_⟩, fun hwaits => by rw [hrun, txStep_of_waits hwaits]⟩
  have hon := (txEnabled_iff s).mpr ⟨hen, hroom⟩
  have hpushed := push_entry_self s.epoch .txf s.txf (toSample s.mixed)
  have hkept := push_entry_of_ne s.epoch .txf s.txf (toSample s.mixed)
  have hslot (c : Chan) :
      s.txProduce.rxSlot (toSample s.mixed) c = rxPart (BitVec.ofInt 16 s.mixed) (s.txSlot c).chan := by
    rw [State.rxSlot, chan_txProduce, toSample]
  have hflags {b : Nat} (hb : 4 ≤ b) := txProduce_irqStatus_of_le s hb
  rcases txStep_cases s with ⟨hoff, -⟩ | ⟨-, hl, hs⟩ | ⟨-, hl, hs⟩
  · exact Bool.noConfusion (hon.symm.trans hoff)
  · rw [hs]
    refine ⟨by rw [if_neg (ne_true_of_eq_false hl)]; rfl, hpushed, hkept, fun _ => chan_txProduce s,
      fun h => Bool.noConfusion (hl.symm.trans h), txProduce_txDone s, fun c => ?_, fun c => ?_,
      fun b hb => hflags (by omega)⟩
    · rw [hflags (by omega), hl, Bool.false_and, Bool.or_false]
    · rw [hflags (by omega), hl, Bool.false_and, Bool.or_false]
  · rw [hs]
    refine ⟨by rw [if_pos hl]; rfl, hpushed, hkept, fun h => Bool.noConfusion (hl.symm.trans h), fun _ c => ?_,
      fun c => ?_, fun c => ?_, fun c => ?_, fun b hb => ?_⟩
    · rw [chan_rxFeed, hslot]
    · rw [rxFeed_irqStatus_outside _ _ (by omega), txProduce_txDone]
    · rw [rxFeed_rxMsg, hslot, hflags (by omega), hl, Bool.true_and]
    · rw [rxFeed_rxqDrop, hslot, hflags (by omega), hl, Bool.true_and]
    · rw [rxFeed_irqStatus_outside _ _ (by omega), hflags (by omega)]

/-- Settles O33: an enabled step feeds the head of RXF, of which an unjoined channel takes nothing. -/
theorem rxSampleStep : Obligations.RxSampleStep := by
  unfold Obligations.RxSampleStep
  intro s hr
  have hrun : runEvent .rx s = .next s.rxStep := runEvent_runs .rx s (.inl hr)
  refine ⟨fun hen hl hdata => ⟨s.rxStep, hrun, ?_⟩, fun hwaits => by rw [hrun, rxStep_of_waits hwaits]⟩
  have hon := (rxEnabled_iff s).mpr ⟨hen, hl, hdata⟩
  rcases rxStep_cases s with ⟨hoff, -⟩ | ⟨-, hs⟩
  · exact Bool.noConfusion (hon.symm.trans hoff)
  · rw [hs]
    refine ⟨rfl, fun c hj => ?_, fun c hj => ?_, rxFeed_rxMsg _ _, rxFeed_rxqDrop _ _,
      fun b hb => rxFeed_irqStatus_outside _ _ hb⟩ <;> rw [chan_rxFeed]
    · exact congrArg RxSlot.chan (if_pos hj)
    · exact congrArg RxSlot.chan (if_neg (ne_true_of_eq_false hj))

end Sys2Proof.Machine
end

section
/-! SUPPORT. What one event can do to the sample FIFOs and why it may (spec/44_fifo_cdc.md R384 to R392): one case for each
writer, with its guard. -/

namespace Sys2Proof.Machine

open Sys2Proof.Safety

/-! ### Full and empty (R384) -/

theorem readerLevel_pos_iff (f : Fifo) : 0 < f.readerLevel ↔ f.viewW ≠ f.r := by
  rw [Fifo.readerLevel]
  bv_omega

theorem emptyR_iff (f : Fifo) : f.emptyR = true ↔ f.viewW = f.r := by
  rw [Fifo.emptyR, beq_iff_eq, Fifo.readerLevel]
  bv_omega

theorem fullW_iff (f : Fifo) : f.fullW = true ↔ f.writerLevel = 64 := beq_iff_eq

/-! ### The DAC and ADC steps (R390, R391) -/

theorem dacStep_of_empty {s : State} (h : s.txf.viewW = s.txf.r) :
    s.dacStep = { s with dacStream := 0 :: s.dacStream, undPend := s.undPend || s.enA } :=
  if_pos ((emptyR_iff _).mpr h)

theorem dacStep_of_data {s : State} (h : s.txf.viewW ≠ s.txf.r) :
    s.dacStep = { s with dacStream := s.txHead :: s.dacStream, txf := s.txf.advance } :=
  if_neg (mt (emptyR_iff _).mp h)

theorem adcStep_of_off {s : State} (h : s.rxenA = false) (x : Sample) : s.adcStep x = s := by
  rw [State.adcStep, h, Bool.not_false, if_pos rfl]

theorem adcStep_of_room {s : State} (h : s.rxenA = true) (hroom : s.rxf.writerLevel ≠ 64) (x : Sample) :
    s.adcStep x = { s with rxf := s.rxf.push x } := by
  have hfull : s.rxf.fullW = false := eq_false_of_ne_true (mt (fullW_iff _).mp hroom)
  rw [State.adcStep, h, Bool.not_true, if_neg Bool.false_ne_true, hfull, Bool.not_false, if_pos rfl]

theorem adcStep_of_full {s : State} (h : s.rxenA = true) (hfull : s.rxf.writerLevel = 64) (x : Sample) :
    s.adcStep x = { s with ovfPend := true } := by
  rw [State.adcStep, h, Bool.not_true, if_neg Bool.false_ne_true, (fullW_iff _).mpr hfull, Bool.not_true,
    if_neg Bool.false_ne_true]

/-! ### The writers of a FIFO (R387) -/

/-- All that one event does to FIFO `id`: what it makes of the FIFO, writer by writer. -/
inductive FifoChange (e : Event) (s : State) : FifoId → Fifo → Prop
  | same (id : FifoId) : FifoChange e s id (s.fifo id)
  | reset (he : e = .rstAssert) (id : FifoId) : FifoChange e s id Fifo.reset
  | txPush (he : e = .tx) (hroom : s.txf.writerLevel < 64) (v : Sample) : FifoChange e s .txf (s.txf.push v)
  | dacPop (he : e = .dac) (hdata : 0 < s.txf.readerLevel) : FifoChange e s .txf s.txf.advance
  | adcPush (x : Sample) (he : e = .adc x) (hroom : s.rxf.writerLevel ≠ 64) : FifoChange e s .rxf (s.rxf.push x)
  | rxPop (he : e = .rx) (hdata : 0 < s.rxf.readerLevel) : FifoChange e s .rxf s.rxf.advance
  | discard (hc : runsCommand e .rxfDiscard) : FifoChange e s .rxf s.rxf.discard
  | syncW (id : FifoId) (v : Ptr) : FifoChange e s id ((s.fifo id).syncW v)
  | syncR (id : FifoId) (v : Ptr) : FifoChange e s id ((s.fifo id).syncR v)

/-! ### Commands -/

/-- A channel command leaves the FIFOs where its body does. -/
theorem fifo_channelCommand (op : Byte) (ch : Nat) {s : State} {body : Chan → State → ResultCode × State} {id : FifoId}
    (h : ∀ c : Chan, (body c s).2.fifo id = s.fifo id) : (channelCommand op ch s body).fifo id = s.fifo id := by
  rcases chanOperand_cases ch with ⟨hch, -⟩ | ⟨c, rfl, -⟩
  · rw [channelCommand_bad op hch, fifo_complete]
  · rw [channelCommand_val, fifo_complete, h c]

theorem fifo_broadcastAll (s : State) (id : FifoId) : (broadcastAll s).2.fifo id = s.fifo id :=
  (congrArg (State.fifo · id) (foldl_broadcastTurn_frame allChans (.ok, s))).trans (by cases id <;> rfl)

/-- Of the commands only RXF_DISCARD writes a FIFO. -/
theorem exec_fifo {i : Instr} {s t : State} (h : exec i s = .next t) (hi : i ≠ .rxfDiscard) (id : FifoId) :
    t.fifo id = s.fifo id := by
  cases i with
  | nop => cases h; exact fifo_complete _ _ _ s id
  | join ch =>
    cases h
    refine fifo_channelCommand _ _ fun c => ?_
    rcases joinCore_cases c s with ⟨-, hb⟩ | ⟨-, hb⟩ <;> rw [hb]
    exact fifo_setChan s c _ id
  | leave ch =>
    cases h
    refine fifo_channelCommand _ _ fun c => ?_
    rcases leaveCore_cases c s with ⟨-, hb⟩ | ⟨-, hb⟩ <;> rw [hb]
    exact fifo_setChan s c _ id
  | send ch =>
    cases h
    refine fifo_channelCommand _ _ fun c => ?_
    rcases sendJoined_cases c s with ⟨-, hb⟩ | ⟨-, hb⟩ <;> rw [hb]
    rcases sendCore_cases c s with ⟨-, hs⟩ | ⟨-, hs⟩ <;> rw [hs]
    rw [fifo_raise, fifo_setChan]
  | broadcast => cases h; rw [fifo_complete, fifo_broadcastAll]
  | rxReset ch =>
    cases h
    refine fifo_channelCommand _ _ fun c => ?_
    rcases rxResetCore_cases c s with ⟨-, hb⟩ | ⟨-, hb⟩ <;> rw [hb]
    exact fifo_setChan s c _ id
  | rxqPop ch =>
    cases h
    refine fifo_channelCommand _ _ fun c => ?_
    rcases rxqPopCore_cases c s with ⟨-, _, _, -, hb⟩ | ⟨-, -, hb⟩ | ⟨-, hb⟩ <;> rw [hb]
    exact fifo_setChan s c _ id
  | rxfDiscard => exact absurd rfl hi

/-- All that a command does to a FIFO. -/
theorem exec_fifoChange {e : Event} {i : Instr} {s t : State} (hrun : runsCommand e i) (h : exec i s = .next t)
    (id : FifoId) : FifoChange e s id (t.fifo id) := by
  by_cases hi : i = .rxfDiscard
  · subst hi
    cases h
    cases id with
    | txf => exact .same .txf
    | rxf => exact .discard hrun
  · rw [exec_fifo h hi]
    exact .same id

/-! ### Every event -/

/-- All that a host access does to a FIFO. -/
theorem hostStep_fifoChange {op : HostOp} {s t : State} (h : hostStep op s = .next t) (id : FifoId) :
    FifoChange (.host op) s id (t.fifo id) := by
  rcases hostStep_cases op s with ⟨_, -, -, hs⟩ | ⟨off, v, rfl, hw, hs⟩ | ⟨_, hs⟩
  · cases hs.symm.trans h
    cases id <;> exact .same _
  · have hwrite := hs.symm.trans h
    generalize hr : regAt (offsetBits off) = r at hwrite
    cases r with
    | cmd =>
      rcases commandWrite_cases v s with ⟨i, hi, hc⟩ | ⟨_, -, hc⟩
      · exact exec_fifoChange ⟨v, cmdWritten_of_regAt v hw hr, hi⟩ (hc.symm.trans hwrite) id
      · cases hc.symm.trans hwrite
        rw [illegalCommand, fifo_complete]
        exact .same id
    | chan c r => cases hwrite; rw [fifo_setChan]; exact .same id
    | stageWin c j => cases hwrite; rw [fifo_setChan]; exact .same id
    | _ => cases hwrite; cases id <;> exact .same _
  · cases hs.symm.trans h

/-- A TX sample step that is enabled pushes to TXF, in loopback too. -/
theorem txStep_fifoChange (s : State) (id : FifoId) : FifoChange .tx s id (s.txStep.fifo id) := by
  have hproduce (hon : s.txEnabled = true) : FifoChange .tx s id (s.txProduce.fifo id) := by
    cases id with
    | txf => exact .txPush rfl ((txEnabled_iff s).mp hon).2 _
    | rxf => exact .same .rxf
  rcases txStep_cases s with ⟨-, hs⟩ | ⟨hon, -, hs⟩ | ⟨hon, -, hs⟩ <;> rw [hs]
  · exact .same id
  · exact hproduce hon
  · rw [fifo_rxFeed]; exact hproduce hon

theorem rxStep_fifoChange (s : State) (id : FifoId) : FifoChange .rx s id (s.rxStep.fifo id) := by
  rcases rxStep_cases s with ⟨-, hs⟩ | ⟨hon, hs⟩ <;> rw [hs]
  · exact .same id
  · rw [fifo_rxFeed]
    cases id with
    | txf => exact .same .txf
    | rxf => exact .rxPop rfl ((rxEnabled_iff s).mp hon).2.2

theorem dacStep_fifoChange (s : State) (id : FifoId) : FifoChange .dac s id (s.dacStep.fifo id) := by
  by_cases hempty : s.txf.viewW = s.txf.r
  · rw [dacStep_of_empty hempty]
    cases id <;> exact .same _
  · rw [dacStep_of_data hempty]
    cases id with
    | txf => exact .dacPop rfl ((readerLevel_pos_iff _).mpr hempty)
    | rxf => exact .same .rxf

theorem adcStep_fifoChange (s : State) (x : Sample) (id : FifoId) : FifoChange (.adc x) s id ((s.adcStep x).fifo id) := by
  rcases Bool.eq_false_or_eq_true s.rxenA with hon | hoff
  · by_cases hfull : s.rxf.writerLevel = 64
    · rw [adcStep_of_full hon hfull]
      cases id <;> exact .same _
    · rw [adcStep_of_room hon hfull]
      cases id with
      | txf => exact .same .txf
      | rxf => exact .adcPush x rfl hfull
  · rw [adcStep_of_off hoff]
    exact .same id

/-- A write to one FIFO is a change of that FIFO and leaves the other. -/
theorem FifoChange.setFifo {e : Event} {s : State} {id : FifoId} {f : Fifo} (h : FifoChange e s id f) (jd : FifoId) :
    FifoChange e s jd ((s.setFifo id f).fifo jd) := by
  by_cases hj : jd = id
  · subst hj; rwa [fifo_setFifo_self]
  · rw [fifo_setFifo_of_ne s hj]; exact .same jd

/-- All that one agent's step does to a FIFO. -/
theorem agentStep_fifoChange {e : Event} {s t : State} (h : agentStep e s = .next t) (id : FifoId) :
    FifoChange e s id (t.fifo id) := by
  cases e with
  | host op => exact hostStep_fifoChange h id
  | tx => cases h; exact txStep_fifoChange s id
  | rx => cases h; exact rxStep_fifoChange s id
  | dac => cases h; exact dacStep_fifoChange s id
  | adc x => cases h; exact adcStep_fifoChange s x id
  | syncW f v => cases h; exact (FifoChange.syncW f v).setFifo id
  | syncR f v => cases h; exact (FifoChange.syncR f v).setFifo id
  | syncEnDac => cases h; cases id <;> exact .same _
  | syncEnAdc => cases h; cases id <;> exact .same _
  | syncUnd => cases h; rw [State.syncUnd]; split <;> cases id <;> exact .same _
  | syncOvf => cases h; rw [State.syncOvf]; split <;> cases id <;> exact .same _
  | rstAssert => cases h; rw [fifo_assertReset]; exact .reset rfl id
  | rstRelease => cases h; cases id <;> exact .same _
  | rstOneDomain d => cases h

/-- All that one scheduled event does to a FIFO. -/
theorem runEvent_fifoChange {e : Event} {s t : State} (h : runEvent e s = .next t) (id : FifoId) :
    FifoChange e s id (t.fifo id) := by
  rcases runEvent_cases e s with hs | hs
  · cases hs.symm.trans h
    exact .same id
  · exact agentStep_fifoChange (hs.symm.trans h) id

/-! ### Pointers and entries -/

theorem syncW_w (f : Fifo) (v : Ptr) : (f.syncW v).w = f.w := by
  rcases syncW_cases f v with ⟨-, h⟩ | h <;> rw [h]

theorem syncW_r (f : Fifo) (v : Ptr) : (f.syncW v).r = f.r := by
  rcases syncW_cases f v with ⟨-, h⟩ | h <;> rw [h]

theorem syncR_w (f : Fifo) (v : Ptr) : (f.syncR v).w = f.w := by
  rcases syncR_cases f v with ⟨-, h⟩ | h <;> rw [h]

theorem syncR_r (f : Fifo) (v : Ptr) : (f.syncR v).r = f.r := by
  rcases syncR_cases f v with ⟨-, h⟩ | h <;> rw [h]

/-- Only a TX sample step and a reset write TXF's W or an entry of it. -/
theorem FifoChange.txf_write {e : Event} {s : State} {f : Fifo} (h : FifoChange e s .txf f) (hreset : e ≠ .rstAssert)
    (hne : f.w ≠ s.txf.w ∨ f.mem ≠ s.txf.mem) : e = .tx := by
  cases h with
  | same => exact hne.elim (absurd rfl) (absurd rfl)
  | reset he => exact absurd he hreset
  | txPush he => exact he
  | dacPop => exact hne.elim (absurd rfl) (absurd rfl)
  | syncW _ v => exact hne.elim (absurd (syncW_w _ v)) (absurd (syncW_mem _ v))
  | syncR _ v => exact hne.elim (absurd (syncR_w _ v)) (absurd (syncR_mem _ v))

/-- Only a DAC step and a reset write TXF's R. -/
theorem FifoChange.txf_read {e : Event} {s : State} {f : Fifo} (h : FifoChange e s .txf f) (hreset : e ≠ .rstAssert)
    (hne : f.r ≠ s.txf.r) : e = .dac := by
  cases h with
  | same => exact absurd rfl hne
  | reset he => exact absurd he hreset
  | txPush => exact absurd rfl hne
  | dacPop he => exact he
  | syncW _ v => exact absurd (syncW_r _ v) hne
  | syncR _ v => exact absurd (syncR_r _ v) hne

/-- Only an ADC step and a reset write RXF's W or an entry of it. -/
theorem FifoChange.rxf_write {e : Event} {s : State} {f : Fifo} (h : FifoChange e s .rxf f) (hreset : e ≠ .rstAssert)
    (hne : f.w ≠ s.rxf.w ∨ f.mem ≠ s.rxf.mem) : ∃ x, e = .adc x := by
  cases h with
  | same => exact hne.elim (absurd rfl) (absurd rfl)
  | reset he => exact absurd he hreset
  | adcPush x he => exact ⟨x, he⟩
  | rxPop => exact hne.elim (absurd rfl) (absurd rfl)
  | discard => exact hne.elim (absurd rfl) (absurd rfl)
  | syncW _ v => exact hne.elim (absurd (syncW_w _ v)) (absurd (syncW_mem _ v))
  | syncR _ v => exact hne.elim (absurd (syncR_w _ v)) (absurd (syncR_mem _ v))

/-- Only an RX sample step, RXF_DISCARD and a reset write RXF's R. -/
theorem FifoChange.rxf_read {e : Event} {s : State} {f : Fifo} (h : FifoChange e s .rxf f) (hreset : e ≠ .rstAssert)
    (hne : f.r ≠ s.rxf.r) : e = .rx ∨ runsCommand e .rxfDiscard := by
  cases h with
  | same => exact absurd rfl hne
  | reset he => exact absurd he hreset
  | adcPush => exact absurd rfl hne
  | rxPop he => exact .inl he
  | discard hc => exact .inr hc
  | syncW _ v => exact absurd (syncW_r _ v) hne
  | syncR _ v => exact absurd (syncR_r _ v) hne

/-- A register reads nothing of a FIFO but its pointers and views (R80, R387). -/
theorem readReg_with_fifoMems (s : State) (m m' : List (Nat × Sample)) (r : Reg) :
    readReg { s with txf := { s.txf with mem := m }, rxf := { s.rxf with mem := m' } } r = readReg s r := by
  cases r <;> rfl

end Sys2Proof.Machine
end

section
/-! The sample FIFOs and the domain crossing: O42, O43, O45. -/

namespace Sys2Proof.Machine

/-- Settles O42, by the writers of a FIFO. -/
theorem fifoOwnership : Obligations.FifoOwnership := by
  unfold Obligations.FifoOwnership
  refine ⟨fun e s t h hreset => ?_, fun s off m m' => readReg_with_fifoMems s m m' _⟩
  have htxf : FifoChange e s .txf t.txf := runEvent_fifoChange h .txf
  have hrxf : FifoChange e s .rxf t.rxf := runEvent_fifoChange h .rxf
  exact ⟨htxf.txf_write hreset, htxf.txf_read hreset, hrxf.rxf_write hreset, hrxf.rxf_read hreset⟩

/-- Settles O43: the DAC step by whether TXF looks empty, the ADC step by whether capture is on and RXF looks full. -/
theorem audioStrobeSteps : Obligations.AudioStrobeSteps := by
  unfold Obligations.AudioStrobeSteps
  intro s hr
  have hdac : runEvent .dac s = .next s.dacStep := runEvent_runs .dac s (.inl hr)
  refine ⟨fun hempty => by rw [hdac, dacStep_of_empty hempty], fun hdata => by rw [hdac, dacStep_of_data hdata]; rfl,
    fun x => ?_⟩
  have hadc : runEvent (.adc x) s = .next (s.adcStep x) := runEvent_runs (.adc x) s (.inl hr)
  refine ⟨fun hoff => by rw [hadc, adcStep_of_off hoff], fun hon hroom => ?_,
    fun hon hfull => by rw [hadc, adcStep_of_full hon hfull]⟩
  exact ⟨_, hadc.trans (congrArg Host.Outcome.next (adcStep_of_room hon hroom x)), rfl,
    push_entry_self s.epoch .rxf s.rxf x, push_entry_of_ne s.epoch .rxf s.rxf x⟩

/-- Settles O45: the enables are copied, and each event bit has its own interrupt bit. -/
theorem enableAndEventSync : Obligations.EnableAndEventSync := by
  unfold Obligations.EnableAndEventSync
  intro s hr
  have hrun (e : Event) : runEvent e s = agentStep e s := runEvent_runs e s (.inl hr)
  have hund : runEvent .syncUnd s = .next s.syncUnd := hrun .syncUnd
  have hovf : runEvent .syncOvf s = .next s.syncOvf := hrun .syncOvf
  refine ⟨hrun .syncEnDac, hrun .syncEnAdc, fun h => ?_, fun h => ?_, fun h => ?_, fun h => ?_⟩
  · rw [hund, State.syncUnd, if_pos h]; rfl
  · rw [hund, State.syncUnd, if_neg (ne_true_of_eq_false h)]
  · rw [hovf, State.syncOvf, if_pos h]; rfl
  · rw [hovf, State.syncOvf, if_neg (ne_true_of_eq_false h)]

end Sys2Proof.Machine
end

section
/-! SUPPORT. The interrupt output read bit by bit (spec/60_exceptions.md R432), and the write that enables a source. -/

namespace Sys2Proof.Machine

/-- Where the reserved bits are 0, a bit that is set is a defined one (R38, R39). -/
theorem irqMask_of_reserved_zero {x : Word} (h : x &&& ~~~irqMask = 0) {b : Nat} (hb : x.getLsbD b = true) :
    irqMask.getLsbD b = true := by
  have hbit : (x &&& ~~~irqMask).getLsbD b = false := BitVec.zero_iff_eq_false.mp h b
  simpa [hb, BitVec.lt_of_getLsbD hb] using hbit

/-- The OR of R432, in every state. -/
theorem irq_iff (s : State) :
    s.irq = true ↔
      ∃ b, s.irqStatus.getLsbD b = true ∧ s.irqEnable.getLsbD b = true ∧ irqMask.getLsbD b = true := by
  rw [State.irq, decide_eq_true_iff]
  refine (not_congr BitVec.zero_iff_eq_false).trans ?_
  simp only [BitVec.getLsbD_and, not_forall, Bool.not_eq_false, Bool.and_eq_true, and_assoc]

theorem runEvent_write_irqEnable {s : State} (hr : s.rst = false) (v : Word) :
    runEvent (.host (.write 0x020 v)) s = .next { s with irqEnable := v &&& irqMask } := by
  have hreg : regAt (offsetBits 0x020) = .irqEnable := by decide
  rw [runEvent_write hr (by decide) (by decide), hreg, writeReg]

end Sys2Proof.Machine
end

section
/-! The interrupt output: O54. -/

namespace Sys2Proof.Machine

open Sys2Proof.Safety

/-- Settles O54: a pending source is a defined bit, so neither the mask of `irq` nor that of the write hides it. -/
theorem irqOutputIsOrOfEnabledBits : Obligations.IrqOutputIsOrOfEnabledBits := by
  unfold Obligations.IrqOutputIsOrOfEnabledBits
  intro s ⟨hstatus, _⟩
  refine ⟨?_, fun b v hr hpending hv => ⟨_, runEvent_write_irqEnable hr v, (irq_iff _).mpr ?_⟩⟩
  · rw [irq_iff]
    constructor
    · rintro ⟨b, hpending, henabled, _⟩
      exact ⟨b, BitVec.lt_of_getLsbD hpending, hpending, henabled⟩
    · rintro ⟨b, _, hpending, henabled⟩
      exact ⟨b, hpending, henabled, irqMask_of_reserved_zero hstatus hpending⟩
  · have hdefined : irqMask.getLsbD b = true := irqMask_of_reserved_zero hstatus hpending
    have henabled : (v &&& irqMask).getLsbD b = true := by rw [BitVec.getLsbD_and, hv, hdefined, Bool.and_self]
    exact ⟨b, hpending, henabled, hdefined⟩

end Sys2Proof.Machine
end

section
/-! The word of a command, both ways, and the step that runs it: O2, O1, O6. -/

namespace Sys2Proof.Machine

open Sys2Proof.Safety

/-- A word decodes only to a command whose operand fits the CH field it was read from (R150, R154). -/
theorem wf_of_decode {w : Word} {i : Instr} (h : decode w = .ok i) : i.wf = true := by
  obtain ⟨-, -, hch⟩ := decode_eq_ok_iff.mp h
  exact i.wf_iff.mpr (by omega)

/-- Settles O2: the encoding of a well-formed command is the one word that decodes to it, and only those decode. -/
theorem decodeEncodeAgree : Obligations.DecodeEncodeAgree := by
  unfold Obligations.DecodeEncodeAgree
  refine ⟨fun i hi => (decode_eq_ok_iff_eq_encode hi).mpr rfl, fun w i h => ?_⟩
  have hi := wf_of_decode h
  exact ⟨hi, ((decode_eq_ok_iff_eq_encode hi).mp h).symm⟩

/-- Settles O1: each legal word is its command's encoding, and each illegal one meets a clause of R152. -/
theorem specWordsDecode : Obligations.SpecWordsDecode := by
  unfold Obligations.SpecWordsDecode
  exact ⟨rfl, rfl, rfl, rfl, rfl, rfl, rfl, rfl, rfl, rfl, rfl, rfl⟩

/-- Settles O6: the step takes the write from the schedule, and the write runs the command of its word. -/
theorem stepRunsDecodedCommand : Obligations.StepRunsDecodedCommand := by
  unfold Obligations.StepRunsDecodedCommand
  intro s w i rest hr hi _ hp
  have hwrite : step s = commandWrite w { s with pending := rest } := by
    rw [step_pending s _ rest hp]
    exact (runEvent_runs _ { s with pending := rest } (.inl hr)).trans (hostStep_cmd w _)
  rw [hwrite, commandWrite, hi]

end Sys2Proof.Machine
end

section
/-! SUPPORT. A FIFO as a queue (spec/44_fifo_cdc.md R380 to R386): its occupancy, its entries and its contents under a push, a
pop and a discard. -/

namespace Sys2Proof.Safety

open Sys2Proof.Machine

/-! ### Occupancy (R380, R381) -/

/-- The writer sees no more room than there is. -/
theorem FifoLag.occupancy_lt {f : Fifo} (h : FifoLag f) (hroom : f.writerLevel < 64) : f.occupancy < 64 := by
  obtain ⟨-, hwriter, hbound⟩ := h
  simp only [Fifo.occupancy, Fifo.writerLevel] at *
  bv_omega

theorem occupancy_push {f : Fifo} (h : f.occupancy < 64) (v : Sample) : (f.push v).occupancy = f.occupancy + 1 := by
  simp only [Fifo.occupancy, push_w, push_r] at *
  bv_omega

theorem occupancy_advance {f : Fifo} (h : 0 < f.occupancy) : f.advance.occupancy + 1 = f.occupancy := by
  simp only [Fifo.occupancy, advance_w, advance_r] at *
  bv_omega

/-- A discard takes what the reader sees. -/
theorem occupancy_discard {f : Fifo} (h : f.readerLevel ≤ f.occupancy) :
    f.discard.occupancy + f.readerLevel = f.occupancy := by
  simp only [Fifo.occupancy, Fifo.readerLevel, discard_w, discard_r] at *
  bv_omega

/-! ### The places of the entries -/

/-- The place after the newest entry is W. -/
theorem r_add_occupancy (f : Fifo) : f.r + BitVec.ofNat 7 f.occupancy = f.w := by
  rw [Fifo.occupancy, BitVec.ofNat_toNat, BitVec.setWidth_eq]
  bv_omega

/-- What the reader sees ends at its view of W. -/
theorem r_add_readerLevel (f : Fifo) : f.r + BitVec.ofNat 7 f.readerLevel = f.viewW := by
  rw [Fifo.readerLevel, BitVec.ofNat_toNat, BitVec.setWidth_eq]
  bv_omega

/-- Place `k` counted from place `j` is place `j + k`. -/
theorem ptr_add_ofNat_add (p : Ptr) (j k : Nat) :
    p + BitVec.ofNat 7 j + BitVec.ofNat 7 k = p + BitVec.ofNat 7 (j + k) := by
  rw [BitVec.ofNat_add, BitVec.add_assoc]

/-- While a FIFO has room, W's place holds none of its entries. -/
theorem fifoIndex_ne_of_lt {f : Fifo} (h : f.occupancy < 64) {k : Nat} (hk : k < f.occupancy) :
    fifoIndex (f.r + BitVec.ofNat 7 k) ≠ fifoIndex f.w := by
  simp only [fifoIndex, Fifo.occupancy] at *
  bv_omega

/-! ### Written entries (R382, R386) -/

/-- A push writes the entry it adds and unwrites none. -/
theorem FifoWritten.push {f : Fifo} (h : FifoWritten f) (hroom : f.occupancy < 64) (v : Sample) :
    FifoWritten (f.push v) := by
  intro k hk
  rw [occupancy_push hroom] at hk
  rw [push_r]
  by_cases hlast : k = f.occupancy
  · rw [hlast, r_add_occupancy, Fifo.push, storeRead_write_self]
    rfl
  · have hold : k < f.occupancy := by omega
    rw [Fifo.push, storeRead_write_of_ne (fifoIndex_ne_of_lt hroom hold)]
    exact h k hold

/-- What is left after the `j` oldest entries were taken is still written. -/
theorem FifoWritten.drop {f g : Fifo} (h : FifoWritten f) {j : Nat} (hmem : g.mem = f.mem)
    (hr : g.r = f.r + BitVec.ofNat 7 j) (hocc : g.occupancy + j = f.occupancy) : FifoWritten g := by
  intro k hk
  rw [hmem, hr, ptr_add_ofNat_add]
  exact h (j + k) (by omega)

/-! ### Contents -/

theorem contents_push {f : Fifo} (hroom : f.occupancy < 64) (epoch : Nat) (id : FifoId) (v : Sample) :
    contents epoch id (f.push v) = contents epoch id f ++ [v] := by
  have hold : ∀ k ∈ List.range f.occupancy, (f.push v).entry epoch id (f.r + BitVec.ofNat 7 k) =
      f.entry epoch id (f.r + BitVec.ofNat 7 k) := fun k hk =>
    push_entry_of_ne epoch id f v _ (fifoIndex_ne_of_lt hroom (List.mem_range.mp hk))
  rw [contents, contents, occupancy_push hroom, List.range_succ, List.map_append, List.map_singleton, push_r,
    r_add_occupancy, push_entry_self, List.map_congr_left hold]

/-- A FIFO whose R stands `j` entries on holds what is left after the `j` oldest entries. -/
theorem contents_drop {f g : Fifo} {j : Nat} (hmem : g.mem = f.mem) (hr : g.r = f.r + BitVec.ofNat 7 j)
    (hocc : g.occupancy + j = f.occupancy) (epoch : Nat) (id : FifoId) :
    contents epoch id g = (contents epoch id f).drop j := by
  have hentry : ∀ k, g.entry epoch id (g.r + BitVec.ofNat 7 k) = f.entry epoch id (f.r + BitVec.ofNat 7 (j + k)) :=
    fun k => by rw [Fifo.entry, Fifo.entry, hmem, hr, ptr_add_ofNat_add]
  refine List.ext_getElem (by simp [contents]; omega) fun k _ _ => ?_
  simp [contents, hentry]

end Sys2Proof.Safety
end

section
/-! SUPPORT. The FIFO invariant and the canonical form of the memories under every event (spec/44_fifo_cdc.md section 1,
spec/20_memory.md section 4). -/

namespace Sys2Proof.Safety

open Sys2Proof.Machine

theorem fifo_takeEvent (s : State) (id : FifoId) : (takeEvent s).fifo id = s.fifo id := by
  unfold takeEvent
  split <;> cases id <;> rfl

/-! ### The FIFO invariant -/

/-- The invariant of one FIFO (R381, R382). -/
structure FifoOk (f : Fifo) : Prop where
  lag : FifoLag f
  written : FifoWritten f

theorem FifoOk.reset : FifoOk Fifo.reset :=
  ⟨⟨by decide, by decide, by decide⟩, fun _ hk => absurd hk (Nat.not_lt_zero _)⟩

theorem FifoOk.push {f : Fifo} (h : FifoOk f) (hroom : f.writerLevel < 64) (v : Sample) : FifoOk (f.push v) :=
  ⟨push_lag f v h.lag hroom, h.written.push (h.lag.occupancy_lt hroom) v⟩

theorem FifoOk.advance {f : Fifo} (h : FifoOk f) (hdata : 0 < f.readerLevel) : FifoOk f.advance :=
  ⟨advance_lag f h.lag hdata, h.written.drop (j := 1) rfl rfl (occupancy_advance (hdata.trans_le h.lag.reader))⟩

theorem FifoOk.discard {f : Fifo} (h : FifoOk f) : FifoOk f.discard :=
  ⟨discard_lag f h.lag, h.written.drop rfl (r_add_readerLevel f).symm (occupancy_discard h.lag.reader)⟩

/-- Moving a view leaves the entries and both pointers. -/
theorem FifoWritten.of_eq {f g : Fifo} (h : FifoWritten f) (hmem : g.mem = f.mem) (hw : g.w = f.w) (hr : g.r = f.r) :
    FifoWritten g :=
  h.drop (j := 0) hmem (by simp [hr]) (by rw [Fifo.occupancy, Fifo.occupancy, hw, hr, Nat.add_zero])

theorem FifoOk.syncW {f : Fifo} (h : FifoOk f) (v : Ptr) : FifoOk (f.syncW v) :=
  ⟨syncW_lag f v h.lag, h.written.of_eq (syncW_mem f v) (syncW_w f v) (syncW_r f v)⟩

theorem FifoOk.syncR {f : Fifo} (h : FifoOk f) (v : Ptr) : FifoOk (f.syncR v) :=
  ⟨syncR_lag f v h.lag, h.written.of_eq (syncR_mem f v) (syncR_w f v) (syncR_r f v)⟩

/-- Whatever an event makes of a FIFO meets the invariant. -/
theorem FifoOk.of_fifoChange {e : Event} {s : State} {id : FifoId} {f : Fifo} (h : FifoOk (s.fifo id))
    (hc : FifoChange e s id f) : FifoOk f := by
  cases hc with
  | same => exact h
  | reset => exact .reset
  | txPush _ hroom v => exact h.push hroom v
  | dacPop _ hdata => exact h.advance hdata
  | adcPush x _ hroom => exact h.push (lt_of_le_of_ne h.lag.bound hroom) x
  | rxPop _ hdata => exact h.advance hdata
  | discard => exact h.discard
  | syncW id v => exact h.syncW v
  | syncR id v => exact h.syncR v

end Sys2Proof.Safety

namespace Sys2Proof.Machine

open Sys2Proof.Safety

/-! ### The canonical form -/

/-- Whatever an event makes of a FIFO has its memory in canonical form. -/
theorem FifoChange.mem_wf {e : Event} {s : State} {id : FifoId} {f : Fifo} (hc : FifoChange e s id f)
    (h : storeWf 64 (s.fifo id).mem = true) : storeWf 64 f.mem = true := by
  cases hc with
  | same | dacPop | rxPop | discard => exact h
  | reset => rfl
  | txPush _ _ v => exact push_mem_wf s.txf v h
  | adcPush x _ _ => exact push_mem_wf s.rxf x h
  | syncW id v => rwa [syncW_mem]
  | syncR id v => rwa [syncR_mem]

theorem txSlot_txb (s : State) (c : Chan) : (s.txSlot c).chan.txb = (s.chan c).txb := congrArg Prod.fst (banks_txSlot s c)

theorem rxPart_txb (x : Sample) (ch : Channel) : (rxPart x ch).chan.txb = ch.txb := congrArg Prod.fst (banks_rxPart x ch)

/-- Whatever an event makes of a channel has its transmit banks in canonical form. -/
theorem ChannelChange.txb_wf {e : Event} {s : State} {c : Chan} {ch : Channel} (hc : ChannelChange e s c ch)
    (h : Memory.wf (s.chan c).txb = true) : Memory.wf ch.txb = true := by
  cases hc with
  | reset => rfl
  | regWrite v r => cases r <;> exact h
  | stageWrite j v => exact writeStage_wf _ j v h
  | transmit => rwa [txSlot_txb]
  | transmitLoopback _ x => rwa [rxPart_txb, txSlot_txb]
  | receive x => rwa [rxPart_txb]
  | _ => exact h

end Sys2Proof.Machine
end

section
/-! The FIFO invariant, the canonical form of the memories, a FIFO as a queue, and the pointer synchronisers: O37, O38, O41,
O44. -/

namespace Sys2Proof.Machine

open Sys2Proof.Safety

/-- Settles O37: every writer of a FIFO keeps its bounds and leaves only written entries between R and W. -/
theorem stepKeepsFifoInvariant : Obligations.StepKeepsFifoInvariant := by
  unfold Obligations.StepKeepsFifoInvariant
  intro s t hs ht id
  have hold : FifoOk ((takeEvent s).fifo id) := by
    obtain ⟨hlag, hwritten⟩ := hs id
    rw [fifo_takeEvent]
    exact ⟨hlag, hwritten⟩
  obtain ⟨hlag, hwritten⟩ := hold.of_fifoChange (runEvent_fifoChange ht id)
  exact ⟨hlag, hwritten⟩

/-- Settles O38, by the writers of a channel and of a FIFO. -/
theorem stepKeepsMemoryCanonical : Obligations.StepKeepsMemoryCanonical := by
  unfold Obligations.StepKeepsMemoryCanonical
  intro s t ⟨htxb, hmem⟩ ht
  refine ⟨fun c => (runEvent_channelChange ht c).txb_wf ?_, fun id => (runEvent_fifoChange ht id).mem_wf ?_⟩
  · rw [chan_takeEvent]
    exact htxb c
  · rw [fifo_takeEvent]
    exact hmem id

/-- Settles O41: a push appends at W, a pop and a discard drop from R what the reader sees. -/
theorem fifoIsAQueue : Obligations.FifoIsAQueue := by
  unfold Obligations.FifoIsAQueue
  intro epoch id f hlag
  refine ⟨fun v hroom => contents_push (hlag.occupancy_lt hroom) epoch id v, fun hdata => ?_,
    contents_drop (f := f) (g := f.discard) rfl (r_add_readerLevel f).symm (occupancy_discard hlag.reader) epoch id⟩
  have hpos : 0 < f.occupancy := hdata.trans_le hlag.reader
  have hlen : 0 < (contents epoch id f).length := by simpa [contents] using hpos
  have hhead : (contents epoch id f)[0] = f.entry epoch id f.r := by simp [contents]
  rw [contents_drop (f := f) (g := f.advance) (j := 1) rfl rfl (occupancy_advance hpos), ← hhead, List.getElem_cons_drop hlen]
  rfl

/-- Settles O44: the view takes a drawn value that lies in the range, and else keeps its own, which does. -/
theorem pointerSyncDeliversAdmittedView : Obligations.PointerSyncDeliversAdmittedView := by
  unfold Obligations.PointerSyncDeliversAdmittedView
  intro s id v hr f
  have hself (p q : Ptr) : (p - p).toNat ≤ q.toNat := by simp
  have hw : runEvent (.syncW id v) s = .next (s.setFifo id (f.syncW v)) := runEvent_runs _ s (.inl hr)
  have hrd : runEvent (.syncR id v) s = .next (s.setFifo id (f.syncR v)) := runEvent_runs _ s (.inl hr)
  constructor
  · rw [hw, Fifo.syncW]
    split
    · next hv => exact ⟨v, rfl, hv, fun _ => rfl⟩
    · next hv => exact ⟨f.viewW, rfl, hself _ _, fun h => absurd h hv⟩
  · rw [hrd, Fifo.syncR]
    split
    · next hv => exact ⟨v, rfl, hv, fun _ => rfl⟩
    · next hv => exact ⟨f.viewR, rfl, hself _ _, fun h => absurd h hv⟩

end Sys2Proof.Machine
end

section
/-! SUPPORT. What a command makes of each channel and of each interrupt bit (spec/40_commands.md sections 1 and 3). -/

namespace Sys2Proof.Machine

open Sys2Proof.Safety

/-! ### Channels -/

/-- All that command `i` does to channel `c`: what it makes of the channel, command by command. -/
inductive CommandChange (i : Instr) (s : State) (c : Chan) : Channel → Prop
  | same : CommandChange i s c (s.chan c)
  | join (hi : i = .join c.val) : CommandChange i s c (joinChannel s.sampleRate (s.chan c))
  | leave (hi : i = .leave c.val) : CommandChange i s c (leaveChannel (s.chan c))
  | send (hi : i = .send c.val ∨ i = .broadcast) : CommandChange i s c (startMessage (s.chan c))
  | rxReset (hi : i = .rxReset c.val) : CommandChange i s c (s.chan c).rxClear
  | rxqPop (hi : i = .rxqPop c.val) (rest : List (List Byte)) : CommandChange i s c { s.chan c with rxq := rest }

/-- A write to one channel is a change of that channel and leaves the others. -/
theorem CommandChange.setChan {i : Instr} {s : State} {c : Chan} {ch : Channel} (h : CommandChange i s c ch) (d : Chan) :
    CommandChange i s d ((s.setChan c ch).chan d) := by
  by_cases hd : d = c
  · subst hd; rwa [chan_setChan_self]
  · rw [chan_setChan_of_ne s hd]; exact .same

/-- A channel command changes the channels as its body does. -/
theorem CommandChange.channelCommand {i : Instr} {s : State} (op : Byte) (ch : Nat)
    {body : Chan → State → ResultCode × State} (d : Chan)
    (h : ∀ c : Chan, c.val = ch → CommandChange i s d ((body c s).2.chan d)) :
    CommandChange i s d ((Machine.channelCommand op ch s body).chan d) := by
  rcases chanOperand_cases ch with ⟨hch, -⟩ | ⟨c, rfl, -⟩
  · rw [channelCommand_bad op hch, chan_complete]; exact .same
  · rw [channelCommand_val, chan_complete]; exact h c rfl

/-- All that a command does to a channel, whether or not its CH operand fits a word. -/
theorem exec_commandChange {i : Instr} {s t : State} (h : exec i s = .next t) (d : Chan) :
    CommandChange i s d (t.chan d) := by
  cases i with
  | nop => cases h; exact .same
  | join ch =>
    cases h
    refine .channelCommand 0x01 ch d fun c hc => ?_
    subst hc
    rcases joinCore_cases c s with ⟨-, hb⟩ | ⟨-, hb⟩ <;> rw [hb]
    · exact CommandChange.setChan (.join rfl) d
    · exact .same
  | leave ch =>
    cases h
    refine .channelCommand 0x02 ch d fun c hc => ?_
    subst hc
    rcases leaveCore_cases c s with ⟨-, hb⟩ | ⟨-, hb⟩ <;> rw [hb]
    · exact CommandChange.setChan (.leave rfl) d
    · exact .same
  | send ch =>
    cases h
    refine .channelCommand 0x03 ch d fun c hc => ?_
    subst hc
    rcases sendJoined_cases c s with ⟨-, hb⟩ | ⟨-, hb⟩ <;> rw [hb]
    · rcases sendCore_cases c s with ⟨-, hs⟩ | ⟨-, hs⟩ <;> rw [hs]
      · exact .same
      · rw [chan_raise]; exact CommandChange.setChan (.send (.inl rfl)) d
    · exact .same
  | broadcast =>
    cases h
    rw [chan_complete, broadcastAll]
    rcases chan_foldl_broadcastTurn allChans (by decide) (.ok, s) d with hb | ⟨-, -, hb⟩ <;> rw [hb]
    · exact .same
    · exact .send (.inr rfl)
  | rxReset ch =>
    cases h
    refine .channelCommand 0x05 ch d fun c hc => ?_
    subst hc
    rcases rxResetCore_cases c s with ⟨-, hb⟩ | ⟨-, hb⟩ <;> rw [hb]
    · exact CommandChange.setChan (.rxReset rfl) d
    · exact .same
  | rxqPop ch =>
    cases h
    refine .channelCommand 0x06 ch d fun c hc => ?_
    subst hc
    rcases rxqPopCore_cases c s with ⟨-, m, rest, -, hb⟩ | ⟨-, -, hb⟩ | ⟨-, hb⟩ <;> rw [hb]
    · exact CommandChange.setChan (.rxqPop rfl rest) d
    · exact .same
    · exact .same
  | rxfDiscard => cases h; exact .same

/-- A command touches a channel only if it names it, or is BROADCAST. -/
theorem CommandChange.eq_of_not_named {i : Instr} {s : State} {c : Chan} {ch : Channel} (h : CommandChange i s c ch)
    (hb : i ≠ .broadcast) (hn : ¬namesChannel i c) : ch = s.chan c := by
  cases h with
  | same => rfl
  | join hi | leave hi | rxReset hi | rxqPop hi => subst hi; exact absurd rfl hn
  | send hi =>
    rcases hi with rfl | rfl
    · exact absurd rfl hn
    · exact absurd rfl hb

theorem CommandChange.txb_eq {i : Instr} {s : State} {c : Chan} {ch : Channel} (h : CommandChange i s c ch) :
    ch.txb = (s.chan c).txb := by
  cases h <;> rfl

/-- Commands keep the host registers of every channel (R41 to R48). -/
theorem CommandChange.keeps_hostRegisters {i : Instr} {s : State} {c : Chan} {ch : Channel} (h : CommandChange i s c ch) :
    ch = { ch with
      baseFreq := (s.chan c).baseFreq, freqSpacing := (s.chan c).freqSpacing, symbolRate := (s.chan c).symbolRate,
      order := (s.chan c).order, frameLen := (s.chan c).frameLen, txLen := (s.chan c).txLen,
      phaseSel := (s.chan c).phaseSel } := by
  cases h <;> rfl

/-- Only JOIN of a channel writes its engine, its phase bank and its drop count. -/
theorem CommandChange.keeps_engine {i : Instr} {s : State} {c : Chan} {ch : Channel} (h : CommandChange i s c ch)
    (hj : i ≠ .join c.val) :
    ch = { ch with
      orderAct := (s.chan c).orderAct, pAct := (s.chan c).pAct, frameAct := (s.chan c).frameAct, ftw := (s.chan c).ftw,
      nyqWarn := (s.chan c).nyqWarn, phase := (s.chan c).phase, rxqDrops := (s.chan c).rxqDrops } := by
  cases h with
  | join hi => exact absurd hi hj
  | _ => rfl

/-! ### Interrupt bits (R200, R220, R225) -/

/-- What a step makes of an interrupt bit `x` that `raises` may set and `clears` may clear: the bit it leaves. -/
inductive FlagChange (raises clears : Prop) (x : Bool) : Bool → Prop
  | same : FlagChange raises clears x x
  | raised (h : raises) : FlagChange raises clears x true
  | cleared (h : clears) : FlagChange raises clears x false

theorem FlagChange.mono {raises raises' clears clears' : Prop} {x y : Bool} (h : FlagChange raises clears x y)
    (hr : raises → raises') (hc : clears → clears') : FlagChange raises' clears' x y := by
  cases h with
  | same => exact .same
  | raised h => exact .raised (hr h)
  | cleared h => exact .cleared (hc h)

theorem FlagChange.eq_of_neither {raises clears : Prop} {x y : Bool} (h : FlagChange raises clears x y) (hr : ¬raises)
    (hc : ¬clears) : y = x := by
  cases h with
  | same => rfl
  | raised h => exact absurd h hr
  | cleared h => exact absurd h hc

/-- A bit that is then ORed into the flag raises it, or changes nothing. -/
theorem FlagChange.or {raises clears : Prop} {x y : Bool} (h : FlagChange raises clears x y) {z : Bool}
    (hz : z = true → raises) : FlagChange raises clears x (y || z) := by
  cases z
  · rwa [Bool.or_false]
  · rw [Bool.or_true]; exact .raised (hz rfl)

/-- The interrupt bits that command `i` may set: CMD_ERR, and TX_DONE by SEND of the channel and by BROADCAST. -/
def commandRaises (i : Instr) (b : Nat) : Prop := b = 18 ∨ b < 4 ∧ (i = .send b ∨ i = .broadcast)

/-- A completion adds at most CMD_ERR to what the body did. -/
theorem FlagChange.complete {i : Instr} {clears : Prop} {x : Bool} {b : Nat} {u : State} (op : Byte) (ch : BitVec 4)
    (code : ResultCode) (h : FlagChange (commandRaises i b) clears x (u.irqStatus.getLsbD b)) :
    FlagChange (commandRaises i b) clears x ((Machine.complete op ch code u).irqStatus.getLsbD b) := by
  rw [complete_irqStatus_getLsbD]
  refine h.or fun herr => ?_
  obtain ⟨hb, -⟩ := of_decide_eq_true herr
  exact .inl hb

theorem FlagChange.channelCommand {i : Instr} {clears : Prop} {s : State} {b : Nat} (op : Byte) (ch : Nat)
    {body : Chan → State → ResultCode × State}
    (h : ∀ c : Chan, c.val = ch →
      FlagChange (commandRaises i b) clears (s.irqStatus.getLsbD b) ((body c s).2.irqStatus.getLsbD b)) :
    FlagChange (commandRaises i b) clears (s.irqStatus.getLsbD b)
      ((Machine.channelCommand op ch s body).irqStatus.getLsbD b) := by
  rcases chanOperand_cases ch with ⟨hch, -⟩ | ⟨c, rfl, -⟩
  · rw [channelCommand_bad op hch]; exact FlagChange.same.complete op _ _
  · rw [channelCommand_val]; exact (h c rfl).complete op _ _

/-- SEND of a channel raises no flag but the channel's TX_DONE. -/
theorem sendCore_flagChange (clears : Prop) (c : Chan) (s : State) (b : Nat) :
    FlagChange (commandRaises (.send c.val) b) clears (s.irqStatus.getLsbD b)
      ((sendCore c s).2.irqStatus.getLsbD b) := by
  rcases sendCore_cases c s with ⟨-, hs⟩ | ⟨-, hs⟩ <;> rw [hs]
  · exact .same
  · rw [raise_txDone, setChan_irqStatus]
    split
    · rw [BitVec.getLsbD_or, bit_getLsbD (by omega)]
      refine FlagChange.same.or fun hb => ?_
      obtain rfl : b = c.val := of_decide_eq_true hb
      exact .inr ⟨c.isLt, .inl rfl⟩
    · exact .same

/-- All that a command does to an interrupt bit; it clears none. -/
theorem exec_flagChange {i : Instr} {s t : State} (h : exec i s = .next t) (b : Nat) :
    FlagChange (commandRaises i b) False (s.irqStatus.getLsbD b) (t.irqStatus.getLsbD b) := by
  cases i with
  | nop => cases h; exact FlagChange.same.complete _ _ _
  | join ch =>
    cases h
    refine .channelCommand _ _ fun c _ => ?_
    rcases joinCore_cases c s with ⟨-, hb⟩ | ⟨-, hb⟩ <;> rw [hb] <;> exact .same
  | leave ch =>
    cases h
    refine .channelCommand _ _ fun c _ => ?_
    rcases leaveCore_cases c s with ⟨-, hb⟩ | ⟨-, hb⟩ <;> rw [hb] <;> exact .same
  | send ch =>
    cases h
    refine .channelCommand _ _ fun c hc => ?_
    subst hc
    rcases sendJoined_cases c s with ⟨-, hb⟩ | ⟨-, hb⟩ <;> rw [hb]
    · exact sendCore_flagChange False c s b
    · exact .same
  | broadcast =>
    cases h
    refine FlagChange.complete _ _ _ ?_
    rw [broadcastAll_irqStatus]
    refine FlagChange.same.or fun hb => ?_
    obtain ⟨c, rfl, -⟩ := of_decide_eq_true hb
    exact .inr ⟨c.isLt, .inr rfl⟩
  | rxReset ch =>
    cases h
    refine .channelCommand _ _ fun c _ => ?_
    rcases rxResetCore_cases c s with ⟨-, hb⟩ | ⟨-, hb⟩ <;> rw [hb] <;> exact .same
  | rxqPop ch =>
    cases h
    refine .channelCommand _ _ fun c _ => ?_
    rcases rxqPopCore_cases c s with ⟨-, _, _, -, hb⟩ | ⟨-, -, hb⟩ | ⟨-, hb⟩ <;> rw [hb] <;> exact .same
  | rxfDiscard => cases h; exact FlagChange.same.complete 0x07 0 .ok

end Sys2Proof.Machine
end

section
/-! The frame of the commands: O17. -/

namespace Sys2Proof.Machine

open Sys2Proof.Safety

/-- Of RXF a command moves at most R (R235). -/
theorem exec_rxf {i : Instr} {s t : State} (h : exec i s = .next t) : t.rxf = { s.rxf with r := t.rxf.r } := by
  by_cases hi : i = .rxfDiscard
  · subst hi; cases h; rfl
  · have hkeep : t.rxf = s.rxf := exec_fifo h hi .rxf
    rw [hkeep]

/-- Settles O17, by what a command makes of a channel and of an interrupt bit. -/
theorem commandFrame : Obligations.CommandFrame := by
  unfold Obligations.CommandFrame
  intro i s t h
  have hwrites : CommandWrites s t := exec_commandWrites h
  have hchan := exec_commandChange h
  have hflag := exec_flagChange h
  refine ⟨?_, fun hi => exec_fifo h hi .rxf, fun c hb hn => (hchan c).eq_of_not_named hb hn, fun c bank k => ?_,
    fun c => (hchan c).keeps_hostRegisters, fun c hj => (hchan c).keeps_engine hj, fun b hlo herr => ?_,
    fun c hb hsend => ?_⟩
  · rw [← exec_rxf h]
    exact hwrites
  · rw [State.txb, State.txb, hwrites.epoch_eq, (hchan c).txb_eq]
  · refine (hflag b).eq_of_neither ?_ id
    rintro (rfl | ⟨hb, -⟩)
    · exact herr rfl
    · omega
  · refine (hflag c.val).eq_of_neither ?_ id
    rintro (hc | ⟨-, hs | hb'⟩)
    · omega
    · exact hsend hs
    · exact hb hb'

end Sys2Proof.Machine
end

section
/-! SUPPORT. What one event leaves unchanged, and what it makes of an interrupt bit (spec/00_scope.md R6, spec/60_exceptions.md
R430, R431). -/

namespace Sys2Proof.Machine

open Sys2Proof.Safety

/-! ### What a host access leaves unchanged -/

/-- `t` differs from `s` at most where host accesses write: the registers, the channels, RXF's read pointer and the model's
trace of read data. -/
def HostWrites (s t : State) : Prop :=
  t = { s with
    en := t.en, loopback := t.loopback, sampleRate := t.sampleRate, cmdResult := t.cmdResult, irqStatus := t.irqStatus,
    irqEnable := t.irqEnable, chans := t.chans, rxf := t.rxf, readStream := t.readStream }

theorem CommandWrites.hostWrites {s t : State} (h : CommandWrites s t) : HostWrites s t := by
  rw [CommandWrites] at h
  rw [HostWrites, h]

/-- A write to CMD writes what commands write, also where the word is illegal (R152, R200). -/
theorem commandWrite_commandWrites {w : Word} {s t : State} (h : commandWrite w s = .next t) : CommandWrites s t := by
  rcases commandWrite_cases w s with ⟨i, -, hc⟩ | ⟨_, -, hc⟩
  · exact exec_commandWrites (hc.symm.trans h)
  · cases hc.symm.trans h
    rfl

theorem hostStep_hostWrites {op : HostOp} {s t : State} (h : hostStep op s = .next t) : HostWrites s t := by
  rcases hostStep_cases op s with ⟨_, -, -, hs⟩ | ⟨off, v, -, -, hs⟩ | ⟨_, hs⟩
  · cases hs.symm.trans h
    rfl
  · have hw := hs.symm.trans h
    generalize regAt (offsetBits off) = r at hw
    cases r with
    | cmd => exact (commandWrite_commandWrites hw).hostWrites
    | _ => cases hw; rfl
  · cases hs.symm.trans h

/-! ### What the audio side and the synchronisers leave unchanged -/

/-- `t` differs from `s` at most where the DAC, the ADC, the SYNC steps and the release of rst write. -/
def AudioWrites (s t : State) : Prop :=
  t = { s with
    txf := t.txf, rxf := t.rxf, enA := t.enA, rxenA := t.rxenA, undPend := t.undPend, ovfPend := t.ovfPend,
    irqStatus := t.irqStatus, rst := t.rst, dacStream := t.dacStream }

theorem agentStep_audioWrites {e : Event} {s t : State} (h : agentStep e s = .next t) (hhost : ∀ op, e ≠ .host op)
    (htx : e ≠ .tx) (hrx : e ≠ .rx) (hreset : e ≠ .rstAssert) : AudioWrites s t := by
  cases e with
  | host op => exact absurd rfl (hhost op)
  | tx => exact absurd rfl htx
  | rx => exact absurd rfl hrx
  | dac => cases h; rw [State.dacStep]; split <;> rfl
  | adc x => cases h; rw [State.adcStep]; split_ifs <;> rfl
  | syncW f v => cases h; cases f <;> rfl
  | syncR f v => cases h; cases f <;> rfl
  | syncEnDac => cases h; rfl
  | syncEnAdc => cases h; rfl
  | syncUnd => cases h; rw [State.syncUnd]; split <;> rfl
  | syncOvf => cases h; rw [State.syncOvf]; split <;> rfl
  | rstAssert => exact absurd rfl hreset
  | rstRelease => cases h; rfl
  | rstOneDomain d => cases h

/-! ### CMD_RESULT and IRQ_ENABLE -/

/-- No step but the host's and reset writes CMD_RESULT or IRQ_ENABLE (R37, R39). -/
theorem agentStep_resultAndEnable {e : Event} {s t : State} (h : agentStep e s = .next t) (hhost : ∀ op, e ≠ .host op)
    (hreset : e ≠ .rstAssert) : t.cmdResult = s.cmdResult ∧ t.irqEnable = s.irqEnable := by
  by_cases htx : e = .tx
  · subst htx
    cases h
    rcases txStep_cases s with ⟨-, hs⟩ | ⟨-, -, hs⟩ | ⟨-, -, hs⟩ <;> rw [hs] <;> simp
  by_cases hrx : e = .rx
  · subst hrx
    cases h
    rcases rxStep_cases s with ⟨-, hs⟩ | ⟨-, hs⟩ <;> rw [hs] <;> simp
  · have hw := agentStep_audioWrites h hhost htx hrx hreset
    rw [AudioWrites] at hw
    rw [hw]
    exact ⟨rfl, rfl⟩

/-- A host access leaves CMD_RESULT, or completes a command in it (R37, R200). -/
theorem hostStep_cmdResult {op : HostOp} {s t : State} (h : hostStep op s = .next t) :
    t.cmdResult = s.cmdResult ∨ ∃ op ch code, t.cmdResult = resultWord op ch code := by
  rcases hostStep_cases op s with ⟨_, -, -, hs⟩ | ⟨off, v, -, -, hs⟩ | ⟨_, hs⟩
  · cases hs.symm.trans h
    exact .inl rfl
  · have hw := hs.symm.trans h
    generalize regAt (offsetBits off) = r at hw
    cases r with
    | cmd =>
      obtain ⟨op, ch, r, hc, -⟩ := commandWrite_completes v s
      cases hc.symm.trans hw
      exact .inr ⟨op, ch, r.1, rfl⟩
    | _ => cases hw; exact .inl rfl
  · cases hs.symm.trans h

/-- A host access leaves IRQ_ENABLE, or stores defined bits in it (R39). -/
theorem hostStep_irqEnable {op : HostOp} {s t : State} (h : hostStep op s = .next t) :
    t.irqEnable = s.irqEnable ∨ ∃ v, t.irqEnable = v &&& irqMask := by
  rcases hostStep_cases op s with ⟨_, -, -, hs⟩ | ⟨off, v, -, -, hs⟩ | ⟨_, hs⟩
  · cases hs.symm.trans h
    exact .inl rfl
  · have hw := hs.symm.trans h
    generalize regAt (offsetBits off) = r at hw
    cases r with
    | cmd =>
      have hcmd : CommandWrites s t := commandWrite_commandWrites hw
      rw [CommandWrites] at hcmd
      rw [hcmd]
      exact .inl rfl
    | irqEnable => cases hw; exact .inr ⟨v, rfl⟩
    | _ => cases hw; exact .inl rfl
  · cases hs.symm.trans h

/-! ### Interrupt bits -/

/-- Event `e` is a source that R430 names for interrupt bit `b`. -/
def EventRaises (e : Event) (b : Nat) : Prop :=
  (b < 4 ∧ (e = .tx ∨ runsCommand e (.send b) ∨ runsCommand e .broadcast)) ∨
  (4 ≤ b ∧ b < 12 ∧ (e = .tx ∨ e = .rx)) ∨
  (b = 16 ∧ e = .syncUnd) ∨ (b = 17 ∧ e = .syncOvf) ∨ (b = 18 ∧ ∃ w, cmdWritten e = some w)

/-- Event `e` is a write to IRQ_STATUS with bit `b` written as 1 (R38). -/
def EventClears (e : Event) (b : Nat) : Prop :=
  ∃ off v, e = .host (.write off v) ∧ 0x01C ≤ off ∧ off < 0x020 ∧ v.getLsbD b = true

/-- Only defined bits have a source (R430). -/
theorem EventRaises.defined {e : Event} {b : Nat} (h : EventRaises e b) : irqMask.getLsbD b = true := by
  have hdefined : ∀ b < 19, b < 12 ∨ 16 ≤ b → irqMask.getLsbD b = true := by decide
  rcases h with ⟨hb, -⟩ | ⟨-, hb, -⟩ | ⟨rfl, -⟩ | ⟨rfl, -⟩ | ⟨rfl, -⟩ <;> exact hdefined _ (by omega) (by omega)

/-- In the register space only word 7 is IRQ_STATUS (R38, R101). -/
theorem word_of_regAt_irqStatus {a : BitVec 12} (h : regAt a = .irqStatus) : a.toNat / 4 = 7 := by
  simp only [regAt] at h
  split_ifs at h
  unfold globalReg at h
  split at h <;> cases h
  assumption

/-- What a W1C write leaves of a bit (R38, R106). -/
theorem w1c_getLsbD (st v : Word) (b : Nat) :
    (w1c st v).getLsbD b = (st.getLsbD b && !(v.getLsbD b && irqMask.getLsbD b)) := by
  rw [w1c, BitVec.getLsbD_and, BitVec.getLsbD_not, BitVec.getLsbD_and]
  by_cases hb : b < 32
  · rw [decide_eq_true hb, Bool.true_and]
  · rw [BitVec.getLsbD_of_ge st b (by omega), Bool.false_and, Bool.false_and]

/-- All that a register write does to an interrupt bit. -/
theorem writeReg_flagChange {off : Int} {v : Word} {s t : State} (hw : inWindow off = true)
    (h : writeReg s v (regAt (offsetBits off)) = .next t) (b : Nat) :
    FlagChange (EventRaises (.host (.write off v)) b) (EventClears (.host (.write off v)) b) (s.irqStatus.getLsbD b)
      (t.irqStatus.getLsbD b) := by
  generalize hr : regAt (offsetBits off) = r at h
  cases r with
  | cmd =>
    have hcmd : cmdWritten (.host (.write off v)) = some v := cmdWritten_of_regAt v hw hr
    rcases commandWrite_cases v s with ⟨i, hi, hc⟩ | ⟨_, -, hc⟩
    · refine (exec_flagChange (hc.symm.trans h) b).mono ?_ False.elim
      rintro (hb | ⟨hb, rfl | rfl⟩)
      · exact .inr (.inr (.inr (.inr ⟨hb, v, hcmd⟩)))
      · exact .inl ⟨hb, .inr (.inl ⟨v, hcmd, hi⟩)⟩
      · exact .inl ⟨hb, .inr (.inr ⟨v, hcmd, hi⟩)⟩
    · cases hc.symm.trans h
      rw [illegalCommand, complete_irqStatus_getLsbD]
      refine FlagChange.same.or fun herr => ?_
      obtain ⟨hb, -⟩ := of_decide_eq_true herr
      exact .inr (.inr (.inr (.inr ⟨hb, v, hcmd⟩)))
  | irqStatus =>
    cases h
    rw [w1c_getLsbD]
    by_cases hv : v.getLsbD b = true
    · cases irqMask.getLsbD b
      · rw [Bool.and_false, Bool.not_false, Bool.and_true]; exact .same
      · obtain ⟨h0, h1⟩ : 0 ≤ off ∧ off < 4096 := of_decide_eq_true hw
        have hword := word_of_regAt_irqStatus hr
        rw [offsetBits, BitVec.toNat_ofInt] at hword
        rw [hv, Bool.and_self, Bool.not_true, Bool.and_false]
        exact .cleared ⟨off, v, rfl, by omega, by omega, hv⟩
    · rw [eq_false_of_ne_true hv, Bool.false_and, Bool.not_false, Bool.and_true]; exact .same
  | _ => cases h; exact .same

theorem txProduce_flagChange (clears : Prop) (s : State) (b : Nat) :
    FlagChange (EventRaises .tx b) clears (s.irqStatus.getLsbD b) (s.txProduce.irqStatus.getLsbD b) := by
  rw [txProduce_irqStatus, BitVec.getLsbD_or, chanBits_getLsbD txDoneBit_eq (by decide)]
  refine FlagChange.same.or fun hb => ?_
  obtain ⟨c, -, hc⟩ := of_decide_eq_true hb
  exact .inl ⟨by omega, .inl rfl⟩

/-- Receiving a sample raises at most RX_MSG and RXQ_DROP. -/
theorem FlagChange.rxFeed {e : Event} {clears : Prop} {x : Bool} {b : Nat} {u : State} (he : e = .tx ∨ e = .rx)
    (h : FlagChange (EventRaises e b) clears x (u.irqStatus.getLsbD b)) (y : Sample) :
    FlagChange (EventRaises e b) clears x ((u.rxFeed y).irqStatus.getLsbD b) := by
  rw [rxFeed_irqStatus, BitVec.getLsbD_or, BitVec.getLsbD_or, chanBits_getLsbD rxMsgBit_eq (by decide),
    chanBits_getLsbD rxqDropBit_eq (by decide)]
  refine h.or fun hb => .inr (.inl ?_)
  rcases Bool.or_eq_true_iff.mp hb with hb | hb <;> obtain ⟨c, -, hc⟩ := of_decide_eq_true hb
  · exact ⟨by omega, by omega, he⟩
  · exact ⟨by omega, by omega, he⟩

/-- All that one agent's step does to an interrupt bit. -/
theorem agentStep_flagChange {e : Event} {s t : State} (h : agentStep e s = .next t) (hreset : e ≠ .rstAssert) (b : Nat) :
    FlagChange (EventRaises e b) (EventClears e b) (s.irqStatus.getLsbD b) (t.irqStatus.getLsbD b) := by
  cases e with
  | host op =>
    rcases hostStep_cases op s with ⟨_, -, -, hs⟩ | ⟨off, v, rfl, hw, hs⟩ | ⟨_, hs⟩
    · cases hs.symm.trans h
      exact .same
    · exact writeReg_flagChange hw (hs.symm.trans h) b
    · cases hs.symm.trans h
  | tx =>
    cases h
    rcases txStep_cases s with ⟨-, hs⟩ | ⟨-, -, hs⟩ | ⟨-, -, hs⟩ <;> rw [hs]
    · exact .same
    · exact txProduce_flagChange _ s b
    · exact (txProduce_flagChange _ s b).rxFeed (.inl rfl) _
  | rx =>
    cases h
    rcases rxStep_cases s with ⟨-, hs⟩ | ⟨-, hs⟩ <;> rw [hs]
    · exact .same
    · exact FlagChange.same.rxFeed (.inr rfl) _
  | dac => cases h; rw [State.dacStep]; split <;> exact .same
  | adc x => cases h; rw [State.adcStep]; split_ifs <;> exact .same
  | syncW f v => cases h; cases f <;> exact .same
  | syncR f v => cases h; cases f <;> exact .same
  | syncEnDac => cases h; exact .same
  | syncEnAdc => cases h; exact .same
  | syncUnd =>
    cases h
    rw [State.syncUnd]
    split
    · rw [BitVec.getLsbD_or, underrunBit, bit_getLsbD (by decide)]
      exact FlagChange.same.or fun hb => .inr (.inr (.inl ⟨of_decide_eq_true hb, rfl⟩))
    · exact .same
  | syncOvf =>
    cases h
    rw [State.syncOvf]
    split
    · rw [BitVec.getLsbD_or, overflowBit, bit_getLsbD (by decide)]
      exact FlagChange.same.or fun hb => .inr (.inr (.inr (.inl ⟨of_decide_eq_true hb, rfl⟩)))
    · exact .same
  | rstAssert => exact absurd rfl hreset
  | rstRelease => cases h; exact .same
  | rstOneDomain d => cases h

/-- All that one scheduled event but reset does to an interrupt bit. -/
theorem runEvent_flagChange {e : Event} {s t : State} (h : runEvent e s = .next t) (hreset : e ≠ .rstAssert) (b : Nat) :
    FlagChange (EventRaises e b) (EventClears e b) (s.irqStatus.getLsbD b) (t.irqStatus.getLsbD b) := by
  rcases runEvent_cases e s with hs | hs
  · cases hs.symm.trans h
    exact .same
  · exact agentStep_flagChange (hs.symm.trans h) hreset b

theorem runEvent_write_irqStatus {s : State} (hr : s.rst = false) (v : Word) :
    runEvent (.host (.write 0x01C v)) s = .next { s with irqStatus := w1c s.irqStatus v } := by
  have hreg : regAt (offsetBits 0x01C) = .irqStatus := by decide
  rw [runEvent_write hr (by decide) (by decide), hreg, writeReg]

end Sys2Proof.Machine
end

section
/-! SUPPORT. The flag and result fields under every event (spec/10_state.md section 2, spec/60_exceptions.md section 1). -/

namespace Sys2Proof.Safety

open Sys2Proof.Machine

/-- The reserved bits of a flag register are 0 exactly when every bit that is set is a defined one (R38, R39). -/
theorem reserved_zero_iff (x : Word) :
    x &&& ~~~irqMask = 0 ↔ ∀ b, x.getLsbD b = true → irqMask.getLsbD b = true := by
  refine ⟨fun h _ hb => irqMask_of_reserved_zero h hb, fun h => BitVec.zero_iff_eq_false.mpr fun b => ?_⟩
  rw [BitVec.getLsbD_and, BitVec.getLsbD_not]
  cases hb : x.getLsbD b
  · rfl
  · rw [h b hb, Bool.not_true, Bool.and_false, Bool.and_false]

/-- CMD_RESULT after a completion has zero reserved bits and a code of R421. -/
theorem resultWord_fields (op : Byte) (ch : BitVec 4) (code : ResultCode) :
    (resultWord op ch code).toNat < 2 ^ 20 ∧ (resultWord op ch code).toNat % 256 ∈ allCodes := by
  have hop := op.isLt
  have hch := ch.isLt
  have hcode := code.toByte.isLt
  have hval : (resultWord op ch code).toNat = 2 ^ 16 * ch.toNat + 2 ^ 8 * op.toNat + code.toByte.toNat := by
    rw [resultWord, toNat_append_eq, toNat_append_eq, toNat_append_eq, BitVec.toNat_ofNat]
    omega
  have hlow : (resultWord op ch code).toNat % 256 = code.toByte.toNat := by omega
  refine ⟨by omega, ?_⟩
  rw [hlow]
  cases code <;> decide

theorem FlagsOk.reset : FlagsOk State.reset := ⟨by decide, by decide⟩

theorem ResultOk.reset : ResultOk State.reset := ⟨by decide, by decide⟩

/-- No agent's step sets a reserved bit: only defined bits have a source, and IRQ_ENABLE stores only defined ones. -/
theorem FlagsOk.agentStep {e : Event} {s t : State} (hs : FlagsOk s) (h : agentStep e s = .next t)
    (hreset : e ≠ .rstAssert) : FlagsOk t := by
  obtain ⟨hstatus, henable⟩ := hs
  rw [reserved_zero_iff] at hstatus
  constructor
  · rw [reserved_zero_iff]
    intro b hb
    have hflag := agentStep_flagChange h hreset b
    rw [hb] at hflag
    cases hx : s.irqStatus.getLsbD b
    · rw [hx] at hflag
      cases hflag with
      | raised hsource => exact hsource.defined
    · exact hstatus b hx
  · by_cases hhost : ∃ op, e = .host op
    · obtain ⟨op, rfl⟩ := hhost
      rcases hostStep_irqEnable h with he | ⟨v, he⟩ <;> rw [he]
      · exact henable
      · rw [BitVec.and_assoc, BitVec.and_not_self]
        exact BitVec.and_zero
    · obtain ⟨-, he⟩ := agentStep_resultAndEnable h (fun op ho => hhost ⟨op, ho⟩) hreset
      rwa [he]

theorem ResultOk.agentStep {e : Event} {s t : State} (hs : ResultOk s) (h : agentStep e s = .next t)
    (hreset : e ≠ .rstAssert) : ResultOk t := by
  by_cases hhost : ∃ op, e = .host op
  · obtain ⟨op, rfl⟩ := hhost
    rw [ResultOk]
    rcases hostStep_cmdResult h with hc | ⟨_, _, _, hc⟩ <;> rw [hc]
    · exact hs
    · exact resultWord_fields _ _ _
  · obtain ⟨hc, -⟩ := agentStep_resultAndEnable h (fun op ho => hhost ⟨op, ho⟩) hreset
    rw [ResultOk, hc]
    exact hs

end Sys2Proof.Safety
end

section
/-! Interrupt bits, and the flag and result fields: O53, O39. -/

namespace Sys2Proof.Machine

open Sys2Proof.Safety

/-- Settles O53, by what an event makes of an interrupt bit. -/
theorem interruptBitsStickyUntilCleared : Obligations.InterruptBitsStickyUntilCleared := by
  unfold Obligations.InterruptBitsStickyUntilCleared
  refine ⟨fun s v hr => ⟨_, runEvent_write_irqStatus hr v, rfl, w1c_getLsbD s.irqStatus v⟩,
    fun e s t b h hreset => ?_⟩
  have hflag := runEvent_flagChange h hreset b
  refine ⟨fun hset hgone => ?_, fun hclear hset => ?_⟩
  · rw [hset, hgone] at hflag
    cases hflag with
    | cleared hc => exact hc
  · rw [hclear, hset] at hflag
    cases hflag with
    | raised hr => exact hr

/-- Settles O39: a reset zeroes both registers, and every other event keeps their fields. -/
theorem stepKeepsFlagAndResultFields : Obligations.StepKeepsFlagAndResultFields := by
  unfold Obligations.StepKeepsFlagAndResultFields
  intro s t ⟨hflags, hresult⟩ ht
  obtain ⟨hflags', hresult'⟩ : FlagsOk (takeEvent s) ∧ ResultOk (takeEvent s) := by
    unfold takeEvent
    split <;> exact ⟨hflags, hresult⟩
  rcases runEvent_next_cases ht with ⟨-, -, rfl⟩ | ⟨-, hs⟩
  · exact ⟨hflags', hresult'⟩
  by_cases hreset : nextEvent s = .rstAssert
  · rw [hreset] at hs
    cases hs
    exact ⟨FlagsOk.reset, ResultOk.reset⟩
  · exact ⟨hflags'.agentStep hs hreset, hresult'.agentStep hs hreset⟩

end Sys2Proof.Machine
end

section
/-! SUPPORT. The events that wait to cross into CORE, what JOIN latches and what EN = 0 holds still, under every event
(spec/44_fifo_cdc.md R394, R397; spec/70_reset_and_hazards.md section 3; spec/60_exceptions.md section 3). -/

namespace Sys2Proof.Machine

open Sys2Proof.Safety

/-! ### Pending events -/

/-- An event but reset leaves rst released, and each pending bit set until its own SYNC step (R390, R391, R394). -/
theorem agentStep_keeps_pending {e : Event} {s t : State} (h : agentStep e s = .next t) (hreset : e ≠ .rstAssert) :
    (s.rst = false → t.rst = false) ∧ (s.undPend = true → e ≠ .syncUnd → t.undPend = true) ∧
    (s.ovfPend = true → e ≠ .syncOvf → t.ovfPend = true) := by
  cases e with
  | host op =>
    have hw := hostStep_hostWrites h
    rw [HostWrites] at hw
    rw [hw]
    exact ⟨id, fun hp _ => hp, fun hp _ => hp⟩
  | tx =>
    cases h
    rcases txStep_cases s with ⟨-, hs⟩ | ⟨-, -, hs⟩ | ⟨-, -, hs⟩ <;> rw [hs] <;> simp
  | rx =>
    cases h
    rcases rxStep_cases s with ⟨-, hs⟩ | ⟨-, hs⟩ <;> rw [hs] <;> simp
  | dac =>
    cases h
    rw [State.dacStep]
    split
    · exact ⟨id, fun hp _ => by simp [hp], fun hp _ => hp⟩
    · exact ⟨id, fun hp _ => hp, fun hp _ => hp⟩
  | adc x => cases h; rw [State.adcStep]; split_ifs <;> simp
  | syncW f v => cases h; cases f <;> exact ⟨id, fun hp _ => hp, fun hp _ => hp⟩
  | syncR f v => cases h; cases f <;> exact ⟨id, fun hp _ => hp, fun hp _ => hp⟩
  | syncEnDac => cases h; exact ⟨id, fun hp _ => hp, fun hp _ => hp⟩
  | syncEnAdc => cases h; exact ⟨id, fun hp _ => hp, fun hp _ => hp⟩
  | syncUnd => cases h; rw [State.syncUnd]; split <;> simp
  | syncOvf => cases h; rw [State.syncOvf]; split <;> simp
  | rstAssert => exact absurd rfl hreset
  | rstRelease => cases h; exact ⟨fun _ => rfl, fun hp _ => hp, fun hp _ => hp⟩
  | rstOneDomain d => cases h

theorem runEvent_keeps_pending {e : Event} {s t : State} (h : runEvent e s = .next t) (hreset : e ≠ .rstAssert) :
    (s.rst = false → t.rst = false) ∧ (s.undPend = true → e ≠ .syncUnd → t.undPend = true) ∧
    (s.ovfPend = true → e ≠ .syncOvf → t.ovfPend = true) := by
  rcases runEvent_next_cases h with ⟨-, -, rfl⟩ | ⟨-, hs⟩
  · exact ⟨id, fun hp _ => hp, fun hp _ => hp⟩
  · exact agentStep_keeps_pending hs hreset

/-- A SYNC step that finds its event pending sets the event's interrupt bit (R394). -/
theorem runEvent_syncUnd_reports {s t : State} (hr : s.rst = false) (hp : s.undPend = true)
    (h : runEvent .syncUnd s = .next t) : t.irqStatus.getLsbD 16 = true := by
  cases (runEvent_runs .syncUnd s (.inl hr)).symm.trans h
  rw [State.syncUnd, if_pos hp, BitVec.getLsbD_or, underrunBit, bit_getLsbD (by decide)]
  simp

theorem runEvent_syncOvf_reports {s t : State} (hr : s.rst = false) (hp : s.ovfPend = true)
    (h : runEvent .syncOvf s = .next t) : t.irqStatus.getLsbD 17 = true := by
  cases (runEvent_runs .syncOvf s (.inl hr)).symm.trans h
  rw [State.syncOvf, if_pos hp, BitVec.getLsbD_or, overflowBit, bit_getLsbD (by decide)]
  simp

/-- A state that waits until the `sync` step, which sets bit `b`, or a reset, comes to the first of the two. -/
theorem reported_of_lasting {sched : Nat → Event} {st : Nat → State} {sync : Event} {waits : State → Prop}
    {b : Nat}
    (hlasts : ∀ n, waits (st n) → sched n ≠ .rstAssert → sched n ≠ sync → waits (st (n + 1)))
    (hreports : ∀ n, waits (st n) → sched n = sync → (st (n + 1)).irqStatus.getLsbD b = true) {n m : Nat} (hnm : n ≤ m)
    (hm : sched m = sync ∨ sched m = .rstAssert) (hn : waits (st n)) :
    ∃ k, n ≤ k ∧ (sched k = .rstAssert ∨ (st (k + 1)).irqStatus.getLsbD b = true) := by
  induction hnm using Nat.decreasingInduction with
  | self => exact ⟨m, le_rfl, hm.symm.imp id (hreports m hn)⟩
  | of_succ k _ ih =>
    by_cases hreset : sched k = .rstAssert
    · exact ⟨k, le_rfl, .inl hreset⟩
    by_cases hsync : sched k = sync
    · exact ⟨k, le_rfl, .inr (hreports k hn hsync)⟩
    obtain ⟨j, hj, hend⟩ := ih (hlasts k hn hreset hsync)
    exact ⟨j, Nat.le_of_succ_le hj, hend⟩

/-! ### Accesses outside the window (R104) -/

theorem hostStep_read_outside {off : Int} (h : ¬(0 ≤ off ∧ off < 4096)) (s : State) :
    hostStep (.read off) s = .refused (.outsideWindow off) :=
  if_neg (mt of_decide_eq_true h)

theorem hostStep_write_outside {off : Int} (h : ¬(0 ≤ off ∧ off < 4096)) (v : Word) (s : State) :
    hostStep (.write off v) s = .refused (.outsideWindow off) :=
  if_neg (mt of_decide_eq_true h)

/-! ### The latched configuration -/

/-- What JOIN latches of a channel (R51, R52, R71). -/
def latched (ch : Channel) : BitVec 3 × BitVec 16 × BitVec 16 × Vector Word 16 × Bool :=
  (ch.orderAct, ch.pAct, ch.frameAct, ch.ftw, ch.nyqWarn)

theorem latched_rxPart (x : Sample) (ch : Channel) : latched (rxPart x ch).chan = latched ch := by
  rw [rxPart_frame]
  rfl

theorem latched_txSlot (s : State) (c : Chan) : latched (s.txSlot c).chan = latched (s.chan c) := by
  rw [State.txSlot]
  rcases txPart_cases (s.activeByte c) (s.chan c) with ⟨-, hp⟩ | ⟨-, hp⟩ <;> rw [hp]
  simp [latched, ncoStep]

/-- Of all that can happen to a channel, only JOIN and reset change what JOIN latches (R480). -/
theorem ChannelChange.latched_eq {e : Event} {s : State} {c : Chan} {ch : Channel} (h : ChannelChange e s c ch)
    (hreset : e ≠ .rstAssert) (hjoin : ¬runsCommand e (.join c.val)) : latched ch = latched (s.chan c) := by
  cases h with
  | reset he => exact absurd he hreset
  | join hc => exact absurd hc hjoin
  | regWrite v r => cases r <;> rfl
  | transmit => exact latched_txSlot s c
  | transmitLoopback _ x => rw [latched_rxPart, latched_txSlot]
  | receive x => exact latched_rxPart x _
  | _ => rfl

/-! ### EN = 0 -/

/-- While EN is 0, an agent other than the host writes nothing but what the audio side and the synchronisers write (R33,
R455). -/
theorem agentStep_of_disabled {e : Event} {s t : State} (h : agentStep e s = .next t) (hen : s.en = false)
    (hreset : e ≠ .rstAssert) (hhost : ∀ op, e ≠ .host op) : AudioWrites s t := by
  by_cases htx : e = .tx
  · subst htx
    cases h
    rw [txStep_of_waits (.inl hen)]
    rfl
  by_cases hrx : e = .rx
  · subst hrx
    cases h
    rw [rxStep_of_waits (.inl hen)]
    rfl
  · exact agentStep_audioWrites h hhost htx hrx hreset

end Sys2Proof.Machine
end

section
/-! SUPPORT. What the registers read after reset (spec/10_state.md sections 2 and 3, spec/20_memory.md R101). -/

namespace Sys2Proof.Machine

open Sys2Proof.Safety

/-- Every global register but ID and PARAMS reads 0 after reset. -/
theorem readReg_reset_globalReg {word : Nat} (h : 2 ≤ word) : readReg State.reset (globalReg word) = 0 := by
  unfold globalReg
  split
  case h_1 | h_2 => omega
  all_goals decide

/-- Every word below the staging windows but ID and PARAMS reads 0 after reset. -/
theorem readReg_reset_regAt {a : BitVec 12} (hlo : 2 ≤ a.toNat / 4) (hhi : a.toNat / 4 < 512) :
    readReg State.reset (regAt a) = 0 := by
  simp only [regAt]
  split_ifs
  · exact readReg_reset_globalReg hlo
  · rw [readReg, chan_reset, readChanReg_reset]
  · rfl
  · rw [readReg, chan_reset]
    exact headWord_of_empty rfl _
  · rfl

end Sys2Proof.Machine
end

section
/-! Rules of the whole machine: O46, O55, O56, O58, and reset: O40, O59, O60. -/

namespace Sys2Proof.Machine

open Sys2Proof.Safety

/-- Settles O46: a pending event waits for its SYNC step, and fairness brings one. -/
theorem fairRunsReportPendingEvents : Obligations.FairRunsReportPendingEvents := by
  unfold Obligations.FairRunsReportPendingEvents
  intro sched st hrun hfair n hr
  constructor
  · intro hp
    obtain ⟨m, hnm, hm⟩ := hfair.underrun n hp
    refine reported_of_lasting (waits := fun s => s.rst = false ∧ s.undPend = true) (fun k ⟨hlow, hwait⟩ hreset hsync => ?_)
      (fun k ⟨hlow, hwait⟩ hsync => ?_) hnm hm ⟨hr, hp⟩
    · obtain ⟨hrst, hund, -⟩ := runEvent_keeps_pending (hrun k) hreset
      exact ⟨hrst hlow, hund hwait hsync⟩
    · exact runEvent_syncUnd_reports hlow hwait (hsync ▸ hrun k)
  · intro hp
    obtain ⟨m, hnm, hm⟩ := hfair.overflow n hp
    refine reported_of_lasting (waits := fun s => s.rst = false ∧ s.ovfPend = true) (fun k ⟨hlow, hwait⟩ hreset hsync => ?_)
      (fun k ⟨hlow, hwait⟩ hsync => ?_) hnm hm ⟨hr, hp⟩
    · obtain ⟨hrst, -, hovf⟩ := runEvent_keeps_pending (hrun k) hreset
      exact ⟨hrst hlow, hovf hwait hsync⟩
    · exact runEvent_syncOvf_reports hlow hwait (hsync ▸ hrun k)

/-- Settles O55: every arm of an agent's step answers a next state but the three that are refused. -/
theorem onlyForeignStimuliStopTheBlock : Obligations.OnlyForeignStimuliStopTheBlock := by
  unfold Obligations.OnlyForeignStimuliStopTheBlock
  refine ⟨fun e s => ?_, fun s off v hr hout => ?_, fun s off n hr => runEvent_runs _ s (.inl hr),
    fun s d => runEvent_runs _ s (.inr rfl)⟩
  · rcases runEvent_cases e s with hs | hs
    · exact .inl ⟨s, hs⟩
    cases e with
    | host op =>
      cases op with
      | read off =>
        by_cases hin : 0 ≤ off ∧ off < 4096
        · exact .inl ⟨_, hs.trans (if_pos (decide_eq_true hin))⟩
        · exact .inr (.inl ⟨off, rfl, hin, hs.trans (hostStep_read_outside hin s)⟩)
      | write off v =>
        by_cases hin : 0 ≤ off ∧ off < 4096
        · obtain ⟨t, ht⟩ := writeReg_next s v (regAt (offsetBits off))
          exact .inl ⟨t, hs.trans ((if_pos (decide_eq_true hin)).trans ht)⟩
        · exact .inr (.inr (.inl ⟨off, v, rfl, hin, hs.trans (hostStep_write_outside hin v s)⟩))
      | narrow off bits => exact .inr (.inr (.inr (.inl ⟨off, bits, rfl, hs⟩)))
    | rstOneDomain d => exact .inr (.inr (.inr (.inr ⟨d, rfl, hs⟩)))
    | _ => exact .inl ⟨_, hs⟩
  · exact ⟨(runEvent_runs _ s (.inl hr)).trans (hostStep_read_outside hout s),
      (runEvent_runs _ s (.inl hr)).trans (hostStep_write_outside hout v s)⟩

/-- Settles O56, by the writers of a channel. -/
theorem configurationLatchedAtJoin : Obligations.ConfigurationLatchedAtJoin := by
  unfold Obligations.ConfigurationLatchedAtJoin
  intro e s t c h hreset hjoin
  have hkeep := (runEvent_channelChange h c).latched_eq hreset hjoin
  simpa only [latched, Prod.mk.injEq] using hkeep

/-- Settles O58: with EN = 0 both sample steps wait, and the other agents do not write these fields. -/
theorem disabledCoreKeepsItsState : Obligations.DisabledCoreKeepsItsState := by
  unfold Obligations.DisabledCoreKeepsItsState
  intro e s t h hen hreset hhost
  have hw : AudioWrites s t := by
    rcases runEvent_next_cases h with ⟨-, -, rfl⟩ | ⟨-, hs⟩
    · rfl
    · exact agentStep_of_disabled hs hen hreset hhost
  rw [AudioWrites] at hw
  rw [hw]
  exact ⟨rfl, rfl, rfl, rfl, rfl, rfl, rfl, rfl⟩

/-- Settles O40, invariant by invariant. -/
theorem resetMeetsInvariants : Obligations.ResetMeetsInvariants := by
  unfold Obligations.ResetMeetsInvariants
  refine ⟨fun c => ?_, fun id => ?_, ⟨reset_txb_wf, fun id => ?_⟩, FlagsOk.reset, ResultOk.reset⟩
  · rw [chan_reset]
    exact .reset
  · rw [fifo_reset]
    exact ⟨FifoOk.reset.lag, FifoOk.reset.written⟩
  · rw [fifo_reset]
    rfl

/-- Settles O59: the registers through the address map, the elements field by field. -/
theorem resetRegisterValues : Obligations.ResetRegisterValues := by
  unfold Obligations.ResetRegisterValues
  refine ⟨by decide, by decide, fun w hlo hhi => ?_, rfl, rfl, by decide, by decide, by decide, rfl, rfl, rfl, rfl, rfl,
    fun id => ?_, fun c => ?_⟩
  · have hword : (offsetBits (4 * (w : Int))).toNat / 4 = w := by
      rw [offsetBits, BitVec.toNat_ofInt]
      omega
    exact readReg_reset_regAt (by omega) (by omega)
  · rw [fifo_reset]
    exact ⟨rfl, rfl, rfl, rfl⟩
  · rw [chan_reset]
    simp [Channel.reset, RxState.clear]

/-- Settles O60: every state takes the assertion, and only the pin moves until rst is released. -/
theorem resetPinDiscardsState : Obligations.ResetPinDiscardsState := by
  unfold Obligations.ResetPinDiscardsState
  intro s
  exact ⟨s.assertReset, runEvent_runs _ s (.inr rfl), rfl, fun e he => runEvent_held e _ rfl he,
    runEvent_runs _ _ (.inr rfl)⟩

end Sys2Proof.Machine
end

section
/-! SUPPORT. The end of a message at a TX sample step, and the receive side of a channel as a function of the samples and the
engine (spec/41_nco_tx.md R271, spec/42_correlator_rx.md R323 to R326). -/

namespace Sys2Proof.Machine

open Sys2Proof.Safety

/-! ### The end of a message (R271) -/

/-- A playing message is done exactly when the cursor's advance ends it. -/
theorem cursorDone_eq_not_txBusy {ch : Channel} (hb : ch.txBusy = true) :
    cursorDone ch = !(cursorAdvance ch).txBusy := by
  rcases cursorAdvance_cases ch with ⟨-, hd, hc⟩ | ⟨-, -, hd, hc⟩ | ⟨-, -, hd, hc⟩ <;> rw [hd, hc]
  · exact (congrArg not hb).symm
  · exact (congrArg not hb).symm
  · rfl

/-- The cursor and the completion of a playing channel's part in a TX sample step are those of cursor_advance. -/
theorem txSlot_cursor {s : State} {c : Chan} (hj : (s.chan c).joined = true) (hb : (s.chan c).txBusy = true) :
    (s.txSlot c).chan.txSamp = (cursorAdvance (s.chan c)).txSamp ∧
    (s.txSlot c).chan.txSym = (cursorAdvance (s.chan c)).txSym ∧
    (s.txSlot c).chan.txBusy = (cursorAdvance (s.chan c)).txBusy ∧
    (s.txSlot c).done = !(cursorAdvance (s.chan c)).txBusy := by
  have hdone : (txPart (s.activeByte c) (s.chan c)).done = cursorDone (s.chan c) := by
    rw [txPart_of_playing _ hj hb]
    rfl
  rw [State.txSlot, hdone, txPart_chan_of_playing _ hj hb, cursorDone_eq_not_txBusy hb]
  exact ⟨rfl, rfl, rfl, rfl⟩

/-- A message that an enabled TX sample step completes sets TX_DONE and leaves the channel idle, in loopback too. -/
theorem txStep_of_done {s : State} {c : Chan} (hon : s.txEnabled = true) (hdone : (s.txSlot c).done = true)
    (hidle : (s.txSlot c).chan.txBusy = false) :
    s.txStep.irqStatus.getLsbD c.val = true ∧ (s.txStep.chan c).txBusy = false := by
  have hflag : s.txProduce.irqStatus.getLsbD c.val = true := by rw [txProduce_txDone, hdone, Bool.or_true]
  rcases txStep_cases s with ⟨hoff, -⟩ | ⟨-, -, hs⟩ | ⟨-, -, hs⟩
  · exact Bool.noConfusion (hon.symm.trans hoff)
  · rw [hs, chan_txProduce]
    exact ⟨hflag, hidle⟩
  · rw [hs, rxFeed_irqStatus_outside _ _ (.inl c.isLt), chan_rxFeed, State.rxSlot, chan_txProduce, rxPart_frame]
    exact ⟨hflag, hidle⟩

end Sys2Proof.Machine

namespace Sys2Proof.Safety

open Sys2Proof.Machine

/-! ### The receive side (R326) -/

/-- Channel `t` with the engine and the receive side of `ch` in place of its own. -/
def withReceiver (t ch : Channel) : Channel :=
  { t with
    joined := ch.joined, orderAct := ch.orderAct, pAct := ch.pAct, frameAct := ch.frameAct, ftw := ch.ftw, rx := ch.rx,
    rxq := ch.rxq, rxqDrops := ch.rxqDrops }

theorem sameReceiver_withReceiver (t ch : Channel) : SameReceiver ch (withReceiver t ch) :=
  ⟨rfl, rfl, rfl, rfl, rfl, rfl, rfl, rfl⟩

theorem SameReceiver.withReceiver_eq {a b : Channel} (h : SameReceiver a b) : withReceiver b a = b := by
  obtain ⟨hj, ho, hp, hf, ht, hrx, hq, hd⟩ := h
  rw [withReceiver, hj, ho, hp, hf, ht, hrx, hq, hd]

/-- The accumulation reads and writes the receiver alone (R300). -/
theorem correlate_withReceiver (x : Sample) (t ch : Channel) :
    correlate x (withReceiver t ch) = withReceiver t (correlate x ch) := rfl

/-- The decision reads and writes the receiver alone (R301). -/
theorem symbolDecide_withReceiver (t ch : Channel) :
    symbolDecide (withReceiver t ch) = withReceiver t (symbolDecide ch) := rfl

theorem windowCheck_withReceiver (t ch : Channel) :
    windowCheck (withReceiver t ch) = withReceiver t (windowCheck ch) := by
  rcases windowCheck_cases ch with ⟨hne, hc⟩ | ⟨heq, hc⟩ <;> rw [hc]
  · exact if_neg hne
  · exact (if_pos heq).trans (symbolDecide_withReceiver t ch)

theorem flush_withReceiver (t ch : Channel) : (flush (withReceiver t ch)).chan = withReceiver t (flush ch).chan := by
  rcases flush_cases ch with ⟨hroom, hf⟩ | ⟨hfull, hf⟩ <;> rw [hf]
  · exact congrArg RxSlot.chan (if_pos hroom)
  · exact congrArg RxSlot.chan (if_neg hfull.not_gt)

theorem frameAdvance_withReceiver (t ch : Channel) :
    (frameAdvance (withReceiver t ch)).chan = withReceiver t (frameAdvance ch).chan := by
  rcases frameAdvance_cases ch with ⟨hne, hf⟩ | ⟨heq, hshort, hf⟩ | ⟨heq, hfull, hf⟩ <;> rw [hf]
  · exact congrArg RxSlot.chan (if_neg hne)
  · exact congrArg RxSlot.chan ((if_pos heq).trans (if_neg hshort.not_ge))
  · exact (congrArg RxSlot.chan ((if_pos heq).trans (if_pos hfull))).trans
      (flush_withReceiver t { ch with rx := { ch.rx with framePos := 0 } })

theorem rxPart_withReceiver (x : Sample) (t ch : Channel) :
    (rxPart x (withReceiver t ch)).chan = withReceiver t (rxPart x ch).chan := by
  rcases rxPart_cases x ch with ⟨hj, hp⟩ | ⟨hj, hp⟩ <;> rw [hp]
  · exact congrArg RxSlot.chan (if_neg (ne_true_of_eq_false hj))
  · refine (congrArg RxSlot.chan (if_pos hj)).trans ?_
    rw [correlatorStep, correlatorStep, correlate_withReceiver, windowCheck_withReceiver, frameAdvance_withReceiver]

theorem receiveAll_withReceiver (t ch : Channel) (xs : List Sample) :
    receiveAll (withReceiver t ch) xs = withReceiver t (receiveAll ch xs) := by
  induction xs generalizing ch with
  | nil => rfl
  | cons x xs ih =>
    rw [receiveAll, receiveAll, List.foldl_cons, List.foldl_cons, rxPart_withReceiver]
    exact ih _

/-! ### Silence (R324) -/

/-- A channel that has received nothing but silence: its accumulators, its assembled stream and its messages are all 0. -/
structure Silent (ch : Channel) : Prop where
  acc : ch.rx.acc = Vector.replicate 16 0
  asm : ch.rx.asm = Vector.replicate 32 0
  messages : ∀ m ∈ ch.rxq, ∀ b ∈ m, b = 0

theorem accStep_zero (acc : Acc) (ref : Word) : accStep 0 acc ref = acc := by
  rw [accStep, show (0 : Sample).toInt = 0 from rfl, Int.zero_mul, Int.add_zero, BitVec.ofInt_toInt]

/-- Where every accumulator is 0 the lowest lane is decided (R301). -/
theorem decideSymbol_of_acc_zero {ch : Channel} (h : ch.rx.acc = Vector.replicate 16 0) : decideSymbol ch = 0 := by
  have hmag : ∀ i, accMag ch i = 0 := fun i => by simp [accMag, h]
  have hkeep : ∀ best i, betterLane ch best i = best := fun best i => by simp [betterLane, hmag]
  rw [decideSymbol]
  generalize List.range (min 16 (2 ^ ch.orderAct.toNat)) = lanes
  induction lanes with
  | nil => rfl
  | cons i lanes ih => rw [List.foldl_cons, hkeep, ih]

/-- OR-ing a 0 into the stream changes nothing (R305). -/
theorem setAsmBit_zero (asm : Vector Byte 32) (j : Nat) : setAsmBit asm j 0 = asm := by
  rw [setAsmBit]
  split
  · rw [Nat.zero_mul, BitVec.or_zero, Vector.set_getElem_self]
  · rfl

/-- Symbol 0 is assembled as 0 bits (R305). -/
theorem assemble_zero_asm (ch : Channel) : (assemble 0 ch).rx.asm = ch.rx.asm := by
  have hbit : ∀ o t, symbolBit 0 o t = 0 := fun o t => by rw [symbolBit, Nat.zero_div]
  simp only [assemble, hbit, setAsmBit_zero]
  induction List.range ch.orderAct.toNat with
  | nil => rfl
  | cons t ts ih => rw [List.foldl_cons, ih]

theorem Silent.correlate {ch : Channel} (h : Silent ch) : Silent (correlate 0 ch) := by
  constructor
  case acc =>
    refine Vector.ext fun i hi => ?_
    rw [correlate_rx_acc 0 ch ⟨i, hi⟩, accStep_zero, ite_self, h.acc]
  case asm => rw [correlate_rx_asm, h.asm]
  case messages => rw [correlate_rxq]; exact h.messages

theorem Silent.windowCheck {ch : Channel} (h : Silent ch) : Silent (windowCheck ch) := by
  rcases windowCheck_cases ch with ⟨-, hc⟩ | ⟨-, hc⟩ <;> rw [hc]
  · exact h
  · refine ⟨rfl, ?_, h.messages⟩
    rw [symbolDecide, decideSymbol_of_acc_zero h.acc]
    exact (assemble_zero_asm ch).trans h.asm

/-- A message of an all-zero stream is all zero bytes (R323). -/
theorem Silent.flushMessage {ch : Channel} (h : Silent ch) : ∀ b ∈ flushMessage ch, b = 0 := by
  intro b hb
  have hmem := List.mem_of_mem_take hb
  rw [h.asm, Vector.toList_replicate] at hmem
  exact List.eq_of_mem_replicate hmem

theorem Silent.flush {ch : Channel} (h : Silent ch) : Silent (flush ch).chan := by
  rcases flush_cases ch with ⟨-, hf⟩ | ⟨-, hf⟩ <;> rw [hf]
  · refine ⟨rfl, rfl, fun m hm => ?_⟩
    rcases List.mem_append.mp hm with hold | hnew
    · exact h.messages m hold
    · rw [List.mem_singleton.mp hnew]
      exact h.flushMessage
  · exact ⟨rfl, rfl, h.messages⟩

theorem Silent.frameAdvance {ch : Channel} (h : Silent ch) : Silent (frameAdvance ch).chan := by
  have hframe (fp : BitVec 16) : Silent { ch with rx := { ch.rx with framePos := fp } } := ⟨h.acc, h.asm, h.messages⟩
  rcases frameAdvance_cases ch with ⟨-, hf⟩ | ⟨-, -, hf⟩ | ⟨-, -, hf⟩ <;> rw [hf]
  · exact hframe _
  · exact hframe 0
  · exact (hframe 0).flush

theorem Silent.rxPart {ch : Channel} (h : Silent ch) : Silent (rxPart 0 ch).chan := by
  rcases rxPart_cases 0 ch with ⟨-, hp⟩ | ⟨-, hp⟩ <;> rw [hp]
  · exact h
  · exact h.correlate.windowCheck.frameAdvance

theorem silent_receiveAll {ch : Channel} (h : Silent ch) (hok : ChannelOk ch) (n : Nat) :
    Silent (receiveAll ch (List.replicate n 0)) ∧ ChannelOk (receiveAll ch (List.replicate n 0)) := by
  induction n generalizing ch with
  | zero => exact ⟨h, hok⟩
  | succ n ih =>
    rw [List.replicate_succ, receiveAll, List.foldl_cons]
    exact ih h.rxPart (hok.rxPart 0)

/-- RXQ_DROPS counts and stays at its largest value (R323). -/
theorem saturating_succ_toNat (d : BitVec 16) :
    (if d = 0xFFFF then 0xFFFF else d + 1).toNat = min (d.toNat + 1) 0xFFFF := by
  have hd := d.isLt
  split
  · next h => subst h; rfl
  · next h =>
    have hne : d.toNat ≠ 0xFFFF := fun e => h (BitVec.eq_of_toNat_eq e)
    rw [toNat_succ_of_lt (by omega)]
    omega

end Sys2Proof.Safety
end

section
/-! The play cursor, the flush and the receive side: O21, O31, O34, O35. -/

namespace Sys2Proof.Machine

open Sys2Proof.Safety

/-- Settles O21: the three cases of the cursor inside a message. -/
theorem cursorAdvances : Obligations.CursorAdvances := by
  unfold Obligations.CursorAdvances
  intro s c hok hj hb ch n u
  obtain ⟨hsamp, hsym, hbusy, hdone⟩ := txSlot_cursor hj hb
  have hidle : u.done = true → u.chan.txBusy = false := fun h => by
    rw [hdone, ← hbusy] at h
    exact Bool.not_eq_true' _ ▸ h
  have hcounts := cursorAdvance_counts hok.tx (hok.engine hj) hb
  refine ⟨fun hin => ?_, fun hend hmore => ?_, fun hend hlast => ?_, fun h hr hon =>
    ⟨s.txStep, runEvent_runs .tx s (.inl hr), txStep_of_done hon h (hidle h)⟩⟩
  · rcases hcounts with ⟨-, hplays, hsame, hnext⟩ | ⟨hp, -⟩ | ⟨hp, -⟩
    · rw [hsamp, hsym, hbusy, hdone, hplays]
      exact ⟨hnext, hsame, rfl, rfl⟩
    · exact absurd hp hin.ne
    · exact absurd hp hin.ne
  · rcases hcounts with ⟨hp, -⟩ | ⟨-, -, hplays, hnext, hzero⟩ | ⟨-, hn, -⟩
    · exact absurd hend hp.ne
    · rw [hsamp, hsym, hbusy, hdone, hplays]
      exact ⟨hzero, hnext, rfl, rfl⟩
    · exact absurd hn hmore.ne
  · rcases hcounts with ⟨hp, -⟩ | ⟨-, hn, -⟩ | ⟨-, -, hends, hnext, hzero⟩
    · exact absurd hend hp.ne
    · exact absurd hlast hn.ne
    · rw [hsamp, hsym, hbusy, hdone, hends]
      exact ⟨hzero, hnext.trans hlast, rfl, rfl⟩

/-- Settles O31: the two cases of the flush, and the count that saturates. -/
theorem flushQueuesOrDropsNewest : Obligations.FlushQueuesOrDropsNewest := by
  unfold Obligations.FlushQueuesOrDropsNewest
  refine fun ch => ⟨fun hroom => ?_, fun hfull => ?_⟩ <;>
    rcases flush_cases ch with ⟨hlen, hf⟩ | ⟨hlen, hf⟩
  · exact hf
  · omega
  · omega
  · rw [hf]
    exact ⟨rfl, saturating_succ_toNat ch.rxqDrops, rfl, rfl⟩

/-- Settles O34: what receiving does to a channel it does to any channel with the same receiver. -/
theorem receiveIndependentOfTransmit : Obligations.ReceiveIndependentOfTransmit := by
  unfold Obligations.ReceiveIndependentOfTransmit
  intro xs a b h
  have hb := receiveAll_withReceiver b a xs
  rw [h.withReceiver_eq] at hb
  rw [hb]
  exact sameReceiver_withReceiver b (receiveAll a xs)

/-- Settles O35: silence keeps the stream and the messages zero, and the channel invariant bounds their lengths. -/
theorem silenceDecodesToZeroBytes : Obligations.SilenceDecodesToZeroBytes := by
  unfold Obligations.SilenceDecodesToZeroBytes
  intro n ch hok _ hclear hempty m hm
  have hstart : Silent ch := ⟨by rw [hclear]; rfl, by rw [hclear]; rfl, by rw [hempty]; exact nofun⟩
  obtain ⟨hend, hokEnd⟩ := silent_receiveAll hstart hok n
  obtain ⟨hlen, -⟩ := hokEnd.queue.sizes m hm
  exact ⟨hlen, hend.messages m hm⟩

end Sys2Proof.Machine
end

section
/-! SUPPORT. Accesses of the register space by what an offset names (spec/20_memory.md R101 to R107): the offsets of one word,
reads, and the read-write, read-only and reserved words. -/

namespace Sys2Proof.Machine

open Sys2Proof.Safety

/-! ### The offsets of one word (R102, R103, R107) -/

/-- The two lowest bits of an offset are ignored. -/
theorem regAt_congr {off off' : Int} (h : off' / 4 = off / 4) : regAt (offsetBits off') = regAt (offsetBits off) := by
  have hword : (offsetBits off').toNat / 4 = (offsetBits off).toNat / 4 := by
    rw [offsetBits, offsetBits, BitVec.toNat_ofInt, BitVec.toNat_ofInt]
    omega
  rw [regAt, regAt, hword]

/-- With rst released, a read in the window answers its word and adds it to the trace of read data. -/
theorem runEvent_read {s : State} (hr : s.rst = false) {off : Int} (h0 : 0 ≤ off) (h1 : off < 4096) :
    runEvent (.host (.read off)) s = .next { s with readStream := readAt s off :: s.readStream } := by
  rw [runEvent_runs _ _ (.inl hr), agentStep, hostStep, inWindow, if_pos (decide_eq_true ⟨h0, h1⟩)]
  rfl

/-- No register shows the trace of read data. -/
theorem readAt_with_readStream (s : State) (l : List Word) (off : Int) :
    readAt { s with readStream := l } off = readAt s off := by
  rw [readAt, readAt]
  cases regAt (offsetBits off) <;> rfl

/-! ### Read-write registers (R106) -/

/-- The defined bits of a channel's register that is read-write; `none` for one that is not. -/
def chanRwMask : ChanReg → Option Word
  | .baseFreq => some 0xFFFFFFFF
  | .freqSpacing => some 0xFFFFFFFF
  | .symbolRate => some 0xFFFFFFFF
  | .order => some 0x7
  | .frameLen => some 0xFFFF
  | .txLen => some 0x1FF
  | .phaseSel => some 0xF
  | _ => none

/-- The defined bits of a read-write register other than IRQ_STATUS; `none` for any other word. -/
def rwMask : Reg → Option Word
  | .ctrl => some 0x3
  | .sampleRate => some 0xFFFFFFFF
  | .irqEnable => some irqMask
  | .chan _ r => chanRwMask r
  | _ => none

theorem rwRegisters_rwMask :
    ∀ p ∈ rwRegisters, (0 ≤ p.1 ∧ p.1 < 4096) ∧ rwMask (regAt (offsetBits p.1)) = some p.2 := by decide

/-- Two read-write registers are two words. -/
theorem rwRegisters_regAt_inj :
    ∀ p ∈ rwRegisters, ∀ q ∈ rwRegisters, regAt (offsetBits q.1) = regAt (offsetBits p.1) → q.1 = p.1 := by decide

/-- A field of `n` bits stored from a word reads back the word's `n` lowest bits. -/
theorem setWidth_setWidth_eq_and (v : Word) {n : Nat} (hn : n ≤ 32) :
    (v.setWidth n).setWidth 32 = v &&& BitVec.ofNat 32 (2 ^ n - 1) := by
  refine BitVec.eq_of_toNat_eq ?_
  have hmask : 2 ^ n - 1 < 2 ^ 32 := by have := Nat.pow_le_pow_right (show 0 < 2 by decide) hn; omega
  rw [BitVec.toNat_setWidth_of_le hn, BitVec.toNat_setWidth, BitVec.toNat_and, BitVec.toNat_ofNat,
    Nat.mod_eq_of_lt hmask, Nat.and_two_pow_sub_one_eq_mod]

/-- A read-write register of a channel reads back the defined bits of what was written (R41 to R48). -/
theorem readChanReg_writeChanReg_self (ch : Channel) (v : Word) {r : ChanReg} {m : Word} (h : chanRwMask r = some m) :
    readChanReg (writeChanReg ch v r) r = v &&& m := by
  have hfull : v = v &&& 0xFFFFFFFF := (BitVec.and_allOnes (x := v)).symm
  cases r <;> cases h
  case baseFreq | freqSpacing | symbolRate => exact hfull
  case order => exact setWidth_setWidth_eq_and v (n := 3) (by decide)
  case frameLen => exact setWidth_setWidth_eq_and v (n := 16) (by decide)
  case txLen => exact setWidth_setWidth_eq_and v (n := 9) (by decide)
  case phaseSel => exact setWidth_setWidth_eq_and v (n := 4) (by decide)

/-- A write to one register of a channel leaves its other read-write registers. -/
theorem readChanReg_writeChanReg_of_ne (ch : Channel) (v : Word) {r r' : ChanReg} {m : Word} (h : chanRwMask r' = some m)
    (hne : r' ≠ r) : readChanReg (writeChanReg ch v r) r' = readChanReg ch r' := by
  cases r' with
  | baseFreq => cases r with | baseFreq => exact absurd rfl hne | _ => rfl
  | freqSpacing => cases r with | freqSpacing => exact absurd rfl hne | _ => rfl
  | symbolRate => cases r with | symbolRate => exact absurd rfl hne | _ => rfl
  | order => cases r with | order => exact absurd rfl hne | _ => rfl
  | frameLen => cases r with | frameLen => exact absurd rfl hne | _ => rfl
  | txLen => cases r with | txLen => exact absurd rfl hne | _ => rfl
  | phaseSel => cases r with | phaseSel => exact absurd rfl hne | _ => rfl
  | _ => cases h

/-- CTRL's two flags read back from bits 0 and 1 (R33). -/
theorem ctrl_flags_eq_and (v : Word) : 0#30 ++ BitVec.ofBool (v.getLsbD 1) ++ BitVec.ofBool (v.getLsbD 0) = v &&& 0x3 := by
  have hlow : (v &&& 0x3).toNat = v.toNat % 2 ^ 2 := by
    rw [BitVec.toNat_and, ← Nat.and_two_pow_sub_one_eq_mod]
    rfl
  refine BitVec.eq_of_toNat_eq ?_
  rw [hlow, toNat_append_eq, toNat_append_eq, BitVec.toNat_ofBool, BitVec.toNat_ofBool, BitVec.getLsbD, BitVec.getLsbD,
    Nat.toNat_testBit, Nat.toNat_testBit, BitVec.toNat_ofNat]
  omega

/-- A read-write register reads back the defined bits of what was written. -/
theorem readReg_of_writeReg {s t : State} {v : Word} {r : Reg} {m : Word} (hm : rwMask r = some m)
    (h : writeReg s v r = .next t) : readReg t r = v &&& m := by
  cases r with
  | ctrl => cases h; cases hm; exact ctrl_flags_eq_and v
  | sampleRate => cases h; cases hm; exact (BitVec.and_allOnes (x := v)).symm
  | irqEnable =>
    cases h
    cases hm
    rw [readReg, BitVec.and_assoc, BitVec.and_self]
  | chan c r =>
    cases h
    rw [readReg, chan_setChan_self]
    exact readChanReg_writeChanReg_self _ v hm
  | _ => cases hm

/-- A write to one read-write register leaves every other one. -/
theorem readReg_of_writeReg_of_ne {s t : State} {v : Word} {r r' : Reg} {m m' : Word} (hm : rwMask r = some m)
    (hm' : rwMask r' = some m') (hne : r' ≠ r) (h : writeReg s v r = .next t) : readReg t r' = readReg s r' := by
  cases r with
  | ctrl => cases h; cases r' with | ctrl => exact absurd rfl hne | _ => rfl
  | sampleRate => cases h; cases r' with | sampleRate => exact absurd rfl hne | _ => rfl
  | irqEnable => cases h; cases r' with | irqEnable => exact absurd rfl hne | _ => rfl
  | chan c r =>
    cases h
    cases r' with
    | chan d r' =>
      rw [readReg, readReg]
      by_cases hd : d = c
      · subst hd
        rw [chan_setChan_self]
        exact readChanReg_writeChanReg_of_ne _ v hm' fun e => hne (e ▸ rfl)
      · rw [chan_setChan_of_ne s hd]
    | ctrl | sampleRate | irqEnable => rfl
    | _ => cases hm'
  | _ => cases hm

/-- A write to word `k` of channel `c`'s block writes register `k` of the channel. -/
theorem runEvent_write_chb {s : State} (hr : s.rst = false) (c : Chan) (k : Fin 16) (v : Word) :
    runEvent (.host (.write (chb c + 4 * k.val) v)) s =
      .next (s.setChan c (writeChanReg (s.chan c) v (chanReg k.val))) := by
  obtain ⟨h0, h1⟩ : 0 ≤ chb c + 4 * (k.val : Int) ∧ chb c + 4 * (k.val : Int) < 4096 :=
    of_decide_eq_true (inWindow_chb c k)
  rw [runEvent_write hr h0 h1, regAt_chb, writeReg]

/-! ### Read-only and reserved words (R105, R106) -/

theorem roRegisters_readOnly :
    ∀ off ∈ roRegisters, (0 ≤ off ∧ off < 4096) ∧ readOnlyReg (regAt (offsetBits off)) = true := by decide

theorem globalReg_of_le {word : Nat} (h : 11 ≤ word) : globalReg word = .reserved := by
  unfold globalReg
  split
  case h_12 => rfl
  all_goals omega

/-- The offsets R101 reserves name nothing, and lie in the window. -/
theorem regAt_of_reservedOffset {off : Int} (h : reservedOffset off) :
    (0 ≤ off ∧ off < 4096) ∧ regAt (offsetBits off) = .reserved := by
  rw [reservedOffset] at h
  have hword : (offsetBits off).toNat / 4 = (off / 4).toNat := by
    rw [offsetBits, BitVec.toNat_ofInt]
    omega
  refine ⟨by omega, ?_⟩
  simp only [regAt, hword]
  split_ifs
  · exact globalReg_of_le (by omega)
  · omega
  · rfl
  · omega
  · rfl
  · omega
  · rfl

end Sys2Proof.Machine
end

section
/-! Reads and register accesses: O47, O48. -/

namespace Sys2Proof.Machine

open Sys2Proof.Safety

/-- Settles O47: a read selects a word, and the trace it leaves is not read. -/
theorem readsHaveNoSideEffect : Obligations.ReadsHaveNoSideEffect := by
  unfold Obligations.ReadsHaveNoSideEffect
  intro s off hr h0 h1 v
  refine ⟨fun off' hsame => ?_, ?_⟩
  · rw [runEvent_read hr (by omega) (by omega), readAt, regAt_congr hsame]
    rfl
  · refine (runEvent_read (s := { s with readStream := v :: s.readStream }) hr h0 h1).trans ?_
    rw [readAt_with_readStream]

/-- Settles O48: every access goes through the word its offset names. -/
theorem registerAccessTypes : Obligations.RegisterAccessTypes := by
  unfold Obligations.RegisterAccessTypes
  intro s v hr
  have hglobal {off : Int} {r : Reg} (h0 : 0 ≤ off) (h1 : off < 4096) (hreg : regAt (offsetBits off) = r) :
      runEvent (.host (.write off v)) s = writeReg s v r := hreg ▸ runEvent_write hr h0 h1 v
  refine ⟨fun p hp => ?_, hglobal (by decide) (by decide) (r := .ctrl) (by decide),
    hglobal (by decide) (by decide) (r := .sampleRate) (by decide), runEvent_write_irqEnable hr v, fun c => ?_,
    fun off hoff => ?_, fun off hoff => ?_, rfl, fun off off' h0 h1 hsame => ?_⟩
  · obtain ⟨⟨h0, h1⟩, hmask⟩ := rwRegisters_rwMask p hp
    obtain ⟨t, ht⟩ := writeReg_next s v (regAt (offsetBits p.1))
    refine ⟨t, (runEvent_write hr h0 h1 v).trans ht, readReg_of_writeReg hmask ht, fun q hq hne => ?_⟩
    obtain ⟨-, hmask'⟩ := rwRegisters_rwMask q hq
    exact readReg_of_writeReg_of_ne hmask hmask' (fun e => hne (rwRegisters_regAt_inj p hp q hq e)) ht
  · exact ⟨runEvent_write_chb hr c 0 v, runEvent_write_chb hr c 1 v, runEvent_write_chb hr c 2 v,
      runEvent_write_chb hr c 3 v, runEvent_write_chb hr c 4 v, runEvent_write_chb hr c 5 v,
      runEvent_write_chb hr c 9 v⟩
  · obtain ⟨⟨h0, h1⟩, hro⟩ := roRegisters_readOnly off hoff
    rw [runEvent_write hr h0 h1, writeReg_readOnly s v _ hro]
  · obtain ⟨⟨h0, h1⟩, hres⟩ := regAt_of_reservedOffset hoff
    exact ⟨hglobal h0 h1 hres, by rw [readAt, hres, readReg]⟩
  · rw [runEvent_write hr (by omega) (by omega), runEvent_write hr h0 h1, regAt_congr hsame]

end Sys2Proof.Machine
end
